-- ==== Sys2Proof/Word.lean ====
section
/-! DEFINITION. The words of the block: bytes of the command stream and brightness values, the 32-bit clock and result
words, the 10-bit samples (spec/00_scope.md R7, R10). -/

namespace Sys2Proof

/-- A byte: a brightness value (`BRIGHT_W`), the PWM counter (`PWM_W`), one byte of the command stream. R7, R80. -/
abbrev Byte := BitVec 8

/-- A 32-bit word: the millisecond counter (`MS_W`) and the result register. R7, R23, R38. -/
abbrev Word := BitVec 32

/-- A conversion result, 0..1023 (`ADC_W`). R7. -/
abbrev Sample := BitVec 10

end Sys2Proof
end

