-- ==== Sys2Proof/Config.lean ====
section
/-! DEFINITION. The implementation parameters: the constants the source fixes (spec/00_scope.md R7, R9), the parameters it
leaves open (R8) as one structure that carries their constraints, and the model's free values (93 I1, I2, I10). -/

namespace Sys2Proof

/-- Number of LED channels. R7. -/
def nch : Nat := 4

/-- Tick rate in Hz. R7. -/
def tickHz : Nat := 1000

/-- CPU clock in Hz with the prescaling disabled. R7. -/
def fCpu : Nat := 8000000

/-- Legal duty-cycle percent, lower end. R7. -/
def dutyMin : Nat := 10

/-- Legal duty-cycle percent, upper end. R7. -/
def dutyMax : Nat := 100

/-- Legal speed percent, lower end. R7. -/
def speedMin : Nat := 25

/-- Legal speed percent, upper end. R7. -/
def speedMax : Nat := 10000

/-- Legal transpose, lower end, semitones. R7. -/
def trMin : Int := -12

/-- Legal transpose, upper end, semitones. R7. -/
def trMax : Int := 12

/-- Inter-note gap before tempo scaling, ms. R7, 92 D23. -/
def noteGapMs : Nat := 50

/-- CPU clock periods per tick: 8 000 000 / 1000. R9. -/
def clocksPerTick : Nat := fCpu / tickHz

/-- The parameters the source leaves open, R8, each with the constraint R8 states for it and no other. The default values
only show that the constraints can be met together (Lean asks for one such value before it accepts an opaque constant of
this type). No definition of the model reads them: `Config.chip` is opaque. -/
structure Config where
  /-- SH: the LED channel whose pin is shared with the analog input. -/
  sh : Fin 4 := 0
  /-- MIC_ENABLE: the build-time microphone toggle, also "the shared-pin discipline is in effect" (92 D8). -/
  micEnable : Bool := true
  /-- SAMPLE_DIV: one PWM cycle in every SAMPLE_DIV qualifies for sampling (92 D7). -/
  sampleDiv : Nat := 1
  /-- MIC_WAIT_US: requested microseconds of the wait for the safe-to-sample flag. -/
  micWaitUs : Nat := 0
  /-- ADC_CONV_US: requested microseconds of one blocking conversion. -/
  adcConvUs : Nat := 0
  /-- MIC_SETTLE_US: the settling delay of MICINIT, requested microseconds. -/
  micSettleUs : Nat := 0
  /-- MIC_FILTER_N: N of the N-sample mean. -/
  micFilterN : Nat := 1
  /-- MIC_FILTER_DELAY_US: the delay between the samples of the mean, requested microseconds. -/
  micFilterDelayUs : Nat := 0
  /-- ADC_REF: opaque token, read by no rule (log 17). -/
  adcRef : Nat := 0
  /-- ADC_CH: opaque token, read by no rule (log 17). -/
  adcCh : Nat := 0
  /-- ADC_DIV: opaque token, read by no rule (log 17). -/
  adcDiv : Nat := 0
  /-- TICK_PRESCALE: the compare timer's prescaler, read by no rule (R40, 92 D13). -/
  tickPrescale : Nat := 8
  /-- TICK_TOP: the compare timer's period, read by no rule (R40, 92 D13). -/
  tickTop : Nat := 1000
  /-- CHROMA: the chromatic lookup table, NT entries. -/
  chroma : List Nat := [1]
  /-- BAND_T1: lowest frequency of indicator band 1. -/
  bandT1 : Nat := 1
  /-- BAND_T2: lowest frequency of indicator band 2. -/
  bandT2 : Nat := 2
  /-- BAND_T3: lowest frequency of indicator band 3. -/
  bandT3 : Nat := 3
  /-- IND_CH: which channel shows which band. -/
  indCh : Vector (Fin 4) 4 := #v[0, 1, 2, 3]
  /-- Pin assignment: names of the physical pins of LED0..LED3 and BUZZ, read by no rule (log 17). -/
  pinNames : Vector Nat 5 := #v[0, 1, 2, 3, 4]
  sampleDiv_pos : 1 ≤ sampleDiv := by decide
  micFilterN_pos : 1 ≤ micFilterN := by decide
  tick_split : 1 ≤ tickPrescale ∧ 1 ≤ tickTop ∧ tickPrescale * tickTop = 8000 := by decide
  chroma_nonempty : 1 ≤ chroma.length := by decide
  chroma_increasing : chroma.Pairwise (· < ·) := by decide
  chroma_range : ∀ e ∈ chroma, 1 ≤ e ∧ e ≤ 65535 := by decide
  band_order : 1 ≤ bandT1 ∧ bandT1 < bandT2 ∧ bandT2 < bandT3 ∧ bandT3 ≤ 65535 := by decide
  indCh_injective : ∀ i j : Fin 4, indCh[i] = indCh[j] → i = j := by decide
  deriving DecidableEq, Repr, Inhabited

/-- NT: the number of entries of CHROMA. R8. -/
def Config.nt (c : Config) : Nat := c.chroma.length

/-- The parameters of the chip: nothing is known of them but R8's constraints. 93 I10: "a theorem meant to hold of the chip
must be quantified over all admissible values". Log 1. -/
opaque Config.chip : Config

/-- The analog environment's answer to the k-th conversion, a free value in 0..1023: 93 I1, R133. Log 2. -/
opaque Config.freeSample : Nat → Sample

/-- A choice of the tick agent: how many TICKs fall due at the k-th point at which it may act. Any natural number, 0 among
them, at every point (93 I2, R230 a); "weak fairness only" bounds the choice as a whole: however far the run has come, the
tick agent acts again (R101, R230 c, 92 D25). The default values only show that there is such a choice; no definition of the
model reads them. -/
structure TickChoice where
  /-- The number of TICKs at the k-th point. -/
  count : Nat → Nat := fun _ => 1
  /-- Weak fairness. R101. -/
  fair : ∀ n, ∃ k, n ≤ k ∧ 1 ≤ count k := by exact fun n => ⟨n, Nat.le_refl n, Nat.le_refl 1⟩
  deriving Inhabited

/-- The number of TICKs that fall due at the k-th point at which the tick agent may act, `Config.freeTicks.count k`: a free
value of which nothing is known but weak fairness. 93 I2, R230, 92 D25. Log 3. -/
opaque Config.freeTicks : TickChoice

end Sys2Proof
end

