-- ==== Sys2Proof/Syntax.lean ====
section
/-! DEFINITION. The host commands: one constructor of `Instr` per row of spec/opcode_table.json (spec/30_encoding.md R84),
with the operands of R82, and the mnemonics and formats of R81 and R84. -/

namespace Sys2Proof

/-- A host command with its operands in the order of R84's operands column. Operands are the numbers R82 assembles; the
range of the field each must fit is checked by `Instr.wellFormed` (R91), and what an operation does with a value outside its
legal range is the operation's business (R86). -/
inductive Instr where
  /-- MILLIS, R102. -/
  | millis
  /-- INIT, R110. -/
  | init
  /-- UPDATE, R112 and R113. -/
  | update
  /-- LEDSET ch, br: R116. -/
  | ledset (ch br : Nat)
  /-- LEDOFF, R118. -/
  | ledoff
  /-- MICINIT, R130. -/
  | micinit
  /-- MICREAD, R133. -/
  | micread
  /-- MICREADF, R137. -/
  | micreadf
  /-- SYNCFG duty, speed, n: R145. -/
  | syncfg (duty speed : Nat) (n : Int)
  /-- BUZON, R146. -/
  | buzon
  /-- TONE f, d, duty: R150. -/
  | tone (f d duty : Nat)
  /-- NOTE f, d: R153. -/
  | note (f d : Nat)
  /-- GAP, R156. -/
  | gap
  /-- MELEND, R163. -/
  | melend
  /-- TRANSP f, n: R148. -/
  | transp (f : Nat) (n : Int)
  /-- AIND f: R158. -/
  | aind (f : Nat)
  /-- AINDOFF, R160. -/
  | aindoff
  deriving DecidableEq, Repr

/-- The mnemonics of R84, in the table's order. -/
inductive Mnemonic where
  | MILLIS | INIT | UPDATE | LEDSET | LEDOFF | MICINIT | MICREAD | MICREADF | SYNCFG | BUZON | TONE | NOTE | GAP | MELEND
  | TRANSP | AIND | AINDOFF
  deriving DecidableEq, Repr

/-- The seven formats of R81. -/
inductive Format where
  | Z | CB | F | FN | FD | FDU | USN
  deriving DecidableEq, Repr

/-- The operation a command asks for. R84. -/
def Instr.mnemonic : Instr → Mnemonic
  | .millis => .MILLIS
  | .init => .INIT
  | .update => .UPDATE
  | .ledset _ _ => .LEDSET
  | .ledoff => .LEDOFF
  | .micinit => .MICINIT
  | .micread => .MICREAD
  | .micreadf => .MICREADF
  | .syncfg _ _ _ => .SYNCFG
  | .buzon => .BUZON
  | .tone _ _ _ => .TONE
  | .note _ _ => .NOTE
  | .gap => .GAP
  | .melend => .MELEND
  | .transp _ _ => .TRANSP
  | .aind _ => .AIND
  | .aindoff => .AINDOFF

end Sys2Proof
end

