-- ==== Sys2Proof/WellFormed.lean ====
section
/-! DEFINITION. Well-formed commands: every operand fits its field (spec/30_encoding.md R91). Values that fit the field but
lie outside the operation's legal range are well formed (R86, R91). -/

namespace Sys2Proof

/-- R91: "`ch`, `br`, `duty` outside 0..255" are rejected. -/
def fitsByte (v : Nat) : Bool := decide (v ≤ 255)

/-- R91: "`f`, `d`, `speed` outside 0..65535" are rejected. -/
def fitsHalf (v : Nat) : Bool := decide (v ≤ 65535)

/-- R91: "`n` outside -128..+127" is rejected. -/
def fitsSigned (n : Int) : Bool := decide (-128 ≤ n) && decide (n ≤ 127)

/-- Every operand of the command fits its field. R91. -/
def Instr.wellFormed : Instr → Bool
  | .millis => true
  | .init => true
  | .update => true
  | .ledset ch br => fitsByte ch && fitsByte br
  | .ledoff => true
  | .micinit => true
  | .micread => true
  | .micreadf => true
  | .syncfg duty speed n => fitsByte duty && fitsHalf speed && fitsSigned n
  | .buzon => true
  | .tone f d duty => fitsHalf f && fitsHalf d && fitsByte duty
  | .note f d => fitsHalf f && fitsHalf d
  | .gap => true
  | .melend => true
  | .transp f n => fitsHalf f && fitsSigned n
  | .aind f => fitsHalf f
  | .aindoff => true

end Sys2Proof
end

