-- ==== Sys2Proof/Decode.lean ====
section
/-! DEFINITION. The command encoding of spec/30_encoding.md: opcode map (R84), formats and lengths (R80, R81, R87), operand
assembly (R82, R65), reserved bytes and truncated streams (R85), the decoder, the encoder, and the reading of a word as
spec/opcode_table.json numbers it. -/

namespace Sys2Proof

/-- R81: the length in bytes of a command of the format. -/
def Format.length : Format → Nat
  | .Z => 1
  | .CB => 3
  | .F => 3
  | .FN => 4
  | .FD => 5
  | .FDU => 6
  | .USN => 5

/-- The format column of R84. -/
def Mnemonic.format : Mnemonic → Format
  | .MILLIS => .Z
  | .INIT => .Z
  | .UPDATE => .Z
  | .LEDSET => .CB
  | .LEDOFF => .Z
  | .MICINIT => .Z
  | .MICREAD => .Z
  | .MICREADF => .Z
  | .SYNCFG => .USN
  | .BUZON => .Z
  | .TONE => .FDU
  | .NOTE => .FD
  | .GAP => .Z
  | .MELEND => .Z
  | .TRANSP => .FN
  | .AIND => .F
  | .AINDOFF => .Z

/-- The opcode column of R84. -/
def Mnemonic.opcode : Mnemonic → Byte
  | .MILLIS => 0x10
  | .INIT => 0x20
  | .UPDATE => 0x21
  | .LEDSET => 0x22
  | .LEDOFF => 0x23
  | .MICINIT => 0x30
  | .MICREAD => 0x31
  | .MICREADF => 0x32
  | .SYNCFG => 0x40
  | .BUZON => 0x41
  | .TONE => 0x42
  | .NOTE => 0x43
  | .GAP => 0x44
  | .MELEND => 0x45
  | .TRANSP => 0x46
  | .AIND => 0x47
  | .AINDOFF => 0x48

/-- The rows of R84 in the table's order. -/
def Mnemonic.all : List Mnemonic :=
  [.MILLIS, .INIT, .UPDATE, .LEDSET, .LEDOFF, .MICINIT, .MICREAD, .MICREADF, .SYNCFG, .BUZON, .TONE, .NOTE, .GAP, .MELEND,
    .TRANSP, .AIND, .AINDOFF]

/-- The row of R84 whose opcode is the byte; none for a reserved byte (R85). "The decoder matches the whole byte" (R83). -/
def Mnemonic.ofOpcode (b : Byte) : Option Mnemonic :=
  Mnemonic.all.find? fun m => m.opcode == b

/-- R84, R80: the length of a command is that of its row's format. -/
def Instr.length (i : Instr) : Nat := i.mnemonic.format.length

/-- R65, R82: a 16-bit operand, the low byte first in the stream: `f = b_hi * 256 + b_lo`. -/
def half (lo hi : Byte) : Nat := hi.toNat * 256 + lo.toNat

/-- R10: `signed_8(b)` is `b` if `b < 128`, else `b - 256`. -/
def signed8 (b : Byte) : Int := if b.toNat < 128 then (b.toNat : Int) else (b.toNat : Int) - 256

/-- Why a stream decodes to no command. -/
inductive DecodeError where
  /-- No byte is left: the end of the stream (R44, R232). No refusal. -/
  | endOfStream
  /-- R85: the opcode byte is reserved. -/
  | reservedOpcode (op : Byte)
  /-- R85: the stream ends inside a command of this operation. -/
  | truncated (m : Mnemonic)
  deriving DecidableEq, Repr

/-- The operands of a command of operation `m` at the front of the stream (R81's byte positions after the opcode byte), and
the bytes after them; none when the stream ends inside the command (R85). -/
def decodeOperands : Mnemonic → List Byte → Option (Instr × List Byte)
  | .MILLIS, bs => some (.millis, bs)
  | .INIT, bs => some (.init, bs)
  | .UPDATE, bs => some (.update, bs)
  | .LEDSET, ch :: br :: bs => some (.ledset ch.toNat br.toNat, bs)
  | .LEDSET, _ => none
  | .LEDOFF, bs => some (.ledoff, bs)
  | .MICINIT, bs => some (.micinit, bs)
  | .MICREAD, bs => some (.micread, bs)
  | .MICREADF, bs => some (.micreadf, bs)
  | .SYNCFG, duty :: slo :: shi :: n :: bs => some (.syncfg duty.toNat (half slo shi) (signed8 n), bs)
  | .SYNCFG, _ => none
  | .BUZON, bs => some (.buzon, bs)
  | .TONE, flo :: fhi :: dlo :: dhi :: duty :: bs => some (.tone (half flo fhi) (half dlo dhi) duty.toNat, bs)
  | .TONE, _ => none
  | .NOTE, flo :: fhi :: dlo :: dhi :: bs => some (.note (half flo fhi) (half dlo dhi), bs)
  | .NOTE, _ => none
  | .GAP, bs => some (.gap, bs)
  | .MELEND, bs => some (.melend, bs)
  | .TRANSP, flo :: fhi :: n :: bs => some (.transp (half flo fhi) (signed8 n), bs)
  | .TRANSP, _ => none
  | .AIND, flo :: fhi :: bs => some (.aind (half flo fhi), bs)
  | .AIND, _ => none
  | .AINDOFF, bs => some (.aindoff, bs)

/-- R80: the command at the front of the stream and the bytes after it. The opcode byte alone gives the length (R87);
"Operand *values* are never illegal at the decoder" (R86). -/
def decode : List Byte → Except DecodeError (Instr × List Byte)
  | [] => .error .endOfStream
  | op :: bs =>
    match Mnemonic.ofOpcode op with
    | none => .error (.reservedOpcode op)
    | some m =>
      match decodeOperands m bs with
      | none => .error (.truncated m)
      | some r => .ok r

/-- The low byte of a 16-bit operand. R65. -/
def loByte (v : Nat) : Byte := BitVec.ofNat 8 v

/-- The high byte of a 16-bit operand. R65. -/
def hiByte (v : Nat) : Byte := BitVec.ofNat 8 (v / 256)

/-- R81's operand bytes of a command, in stream order. -/
def encodeOperands : Instr → List Byte
  | .millis => []
  | .init => []
  | .update => []
  | .ledset ch br => [loByte ch, loByte br]
  | .ledoff => []
  | .micinit => []
  | .micread => []
  | .micreadf => []
  | .syncfg duty speed n => [loByte duty, loByte speed, hiByte speed, BitVec.ofInt 8 n]
  | .buzon => []
  | .tone f d duty => [loByte f, hiByte f, loByte d, hiByte d, loByte duty]
  | .note f d => [loByte f, hiByte f, loByte d, hiByte d]
  | .gap => []
  | .melend => []
  | .transp f n => [loByte f, hiByte f, BitVec.ofInt 8 n]
  | .aind f => [loByte f, hiByte f]
  | .aindoff => []

/-- R80, R81: the bytes of a command, the opcode byte first. -/
def encode (i : Instr) : List Byte := i.mnemonic.opcode :: encodeOperands i

/-- A command stream: "a concatenation of commands with nothing between them" (R80). -/
def encodeAll (is : List Instr) : List Byte := is.flatMap encode

/-- The longest command is 6 bytes long (R80). -/
def maxLength : Nat := 6

/-- The `k` low bytes of `w`, the least significant first. -/
def bytesOf : Nat → Nat → List Byte
  | 0, _ => []
  | k + 1, w => BitVec.ofNat 8 w :: bytesOf k (w / 256)

/-- Whether a byte list begins with a command. -/
def decodes (bs : List Byte) : Bool :=
  match decode bs with
  | .ok _ => true
  | .error _ => false

/-- The bytes of a table row's `nbits`-bit word `w` in stream order, followed by zeros up to the longest command.
spec/opcode_table.json: "byte 0 (the opcode byte) is the most significant byte". Where no command begins so (byte 0 would be
a reserved byte), the word is read the other way round, byte 0 the least significant: log 10. -/
def tableBytes (nbits w : Nat) : List Byte :=
  let le := bytesOf (nbits / 8) w
  let pad := List.replicate (maxLength - nbits / 8) (0 : Byte)
  if decodes (le.reverse ++ pad) then le.reverse ++ pad else le ++ pad

/-- The command the decoder reads from the table word: `tableBytes` decoded. Log 10. -/
def decodeTableWord (nbits w : Nat) : Option Instr :=
  match decode (tableBytes nbits w) with
  | .ok (i, _) => some i
  | .error _ => none

end Sys2Proof
end

