-- ==== Sys2Proof/Machine/State.lean ====
section
/-! DEFINITION. The state of the block: every element of spec/10_state.md (S0..S32, the hidden TMASK and TPEND of R39, the
history HIST of R46, the host's command stream and index of R44 and R64) as plain data, the model's own fields, the reset
state of R47, and the ways a step can stop. -/

namespace Sys2Proof.Machine

/-- A pin's direction. R34. -/
inductive Dir where
  | input
  | output
  deriving DecidableEq, Repr

/-- The five pins by logical name. R33. -/
inductive Pin where
  /-- LED[c], one per channel. -/
  | led (c : Fin 4)
  /-- BUZZ, the buzzer pin. -/
  | buzz
  deriving DecidableEq, Repr

/-- The pin order of S17..S21 and S22..S26: LED[0], LED[1], LED[2], LED[3], BUZZ. R34, R35. -/
def Pin.index : Pin → Fin 5
  | .led c => c.castLE (by decide)
  | .buzz => 4

/-- The logical owner of the shared pin. R36. -/
inductive Owner where
  | LED
  | MIC
  | AIND
  deriving DecidableEq, Repr

/-- The events of HIST. R46. -/
inductive Event where
  /-- Level(p, v): an output level was written. -/
  | level (p : Pin) (v : Bool)
  /-- Dir(p, d): a direction was written. -/
  | dir (p : Pin) (d : Dir)
  /-- Wait(us): a busy-wait of so many requested microseconds. -/
  | wait (us : Nat)
  /-- Sample(v, safe, dir): a conversion returned `v`; `safe`: SAFE was 1 when the wait ended; `dir`: the shared pin's
  direction at the conversion. -/
  | sample (v : Sample) (safe : Bool) (dir : Dir)
  /-- Recal: the request to the sensor collaborator to recalibrate. -/
  | recal
  /-- Result(v): a result was delivered in RES. -/
  | result (v : Word)
  /-- Tick: one TICK of the tick agent. -/
  | tick
  deriving DecidableEq, Repr

/-- What the analog environment and the tick agent will do (the model's own, R45: "not state, but parameters of the step
relation"): the answers and the tick counts given from outside, next first, and how many have been taken. Where none is
given the free values of Config answer. Log 2, 3. -/
structure Env where
  /-- Conversion results given from outside, next first. -/
  samples : List Sample
  /-- How many conversions have been answered. -/
  sampleNo : Nat
  /-- Tick counts given from outside, next first. -/
  ticks : List Nat
  /-- How many tick counts have been taken. -/
  tickNo : Nat
  deriving DecidableEq, Repr

/-- The state of the block and of its host and environment. -/
@[ext]
structure State where
  /-- ACTIVE[0..3] (S0..S3). R20. -/
  active : Vector Byte 4
  /-- PENDING[0..3] (S4..S7). R21. -/
  pending : Vector Byte 4
  /-- MS (S8). R23. -/
  ms : Word
  /-- PWMCNT (S9). R24. -/
  pwmcnt : Byte
  /-- SUBCNT (S10), an integer in 0..SAMPLE_DIV-1. R25. -/
  subcnt : Nat
  /-- TIMER_RUN (S11). R26. -/
  timerRun : Bool
  /-- CLK_FULL (S12). R27. -/
  clkFull : Bool
  /-- ADC_READY (S13). R28. -/
  adcReady : Bool
  /-- PULL_SH (S14). R29. -/
  pullSh : Bool
  /-- SWP (S15), the swap-pending flag. R30. -/
  swp : Bool
  /-- SAFE (S16), the safe-to-sample flag. R31. -/
  safe : Bool
  /-- DIR (S17..S21), in the pin order of `Pin.index`. R34. -/
  dir : Vector Dir 5
  /-- LEVEL (S22..S26), same order. R35. -/
  level : Vector Bool 5
  /-- OWNER (S27). R36. -/
  owner : Owner
  /-- DUTY (S28), percent, 10..100. R37. -/
  duty : Nat
  /-- SPEED (S29), percent, 25..10000. R37. -/
  speed : Nat
  /-- TRANSPOSE (S30), semitones, -12..+12. R37. -/
  transpose : Int
  /-- SYN_VALID (S31). R37. -/
  synValid : Bool
  /-- RES (S32). R38. -/
  res : Word
  /-- The model's own: RES has been written, so that the host may read it. R38, log 6. -/
  resValid : Bool
  /-- TMASK, the tick-interrupt mask. R39, R186. -/
  tmask : Bool
  /-- TPEND, the one-deep pending latch. R39, R186. -/
  tpend : Bool
  /-- HIST, oldest event first. R46. -/
  hist : List Event
  /-- The host's command stream. R64. -/
  stream : List Byte
  /-- ci, the host's command index into the stream. R44, R80. -/
  ci : Nat
  /-- The model's own: the parameters of R8, never written. Log 1. -/
  cfg : Config
  /-- The model's own: the choices of the environment and the tick agent. Log 2, 3. -/
  env : Env
  deriving DecidableEq, Repr

/-- Why a step stops with a fault: never. "The block raises no synchronous exception and has no trap mechanism" (R180);
"none returns a fault" (R182). So the type has no constructor, nobody raises one, and that is safe: log 22. -/
inductive Fault where
  deriving DecidableEq, Repr

/-- Why the model gives a case no meaning: R183's list, each a case the spec itself says "the model refuses". -/
inductive Refusal where
  /-- An instruction whose arm of exec has no meaning yet. Raised by no arm of this model. Safe. -/
  | notModelled (mnemonic : String)
  /-- R85: a reserved opcode byte at the command index. Raised by `step`. Safe: claims about such streams are unprovable. -/
  | reservedOpcode (op : Byte)
  /-- R85: the stream ends inside a command. Raised by `step`. Safe. -/
  | truncatedCommand (m : Mnemonic)
  /-- R153, R156: the precondition of NOTE and GAP, "`SYN_VALID = 1`; otherwise the model refuses"; R183 lists "NOTE or GAP
  with `SYN_VALID = 0`", 93 I4 gives the treatment "`refuse`". SYN_VALID is 0 at reset by R47. Raised by NOTE and GAP. Safe. -/
  | synthNotConfigured
  /-- R153: NOTE outside its admitted domain `d * 100 / SPEED <= 65535`. Raised by NOTE. Safe. -/
  | noteOutOfDomain
  /-- R129: MICINIT, MICREAD or MICREADF in a build with MIC_ENABLE = false. Raised by these three. Safe. -/
  | micNotBuilt
  /-- R38: "a host read of `RES` before the first result-bearing command is refused by the model"; R183 lists it, 93 I5 gives
  the treatment "`refuse` a host read". Raised by `State.hostReadRes`, by no instruction and no step. Safe. -/
  | resNotWritten
  deriving DecidableEq, Repr

/-- Nothing given from outside, nothing taken. Log 2, 3. -/
def Env.fresh : Env := { samples := [], sampleNo := 0, ticks := [], tickNo := 0 }

/-- The state at reset, R47 and R210. Where R47 says "no value" or "unspecified" the logged value stands: DUTY, SPEED and
TRANSPOSE log 5, RES log 6, CLK_FULL and PULL_SH log 7. The stream is empty (R211, log 9). -/
def State.reset : State where
  active := Vector.replicate 4 0
  pending := Vector.replicate 4 0
  ms := 0
  pwmcnt := 0
  subcnt := 0
  timerRun := false
  clkFull := false
  adcReady := false
  pullSh := false
  swp := false
  safe := false
  dir := Vector.replicate 5 .input
  level := Vector.replicate 5 false
  owner := .LED
  duty := 10
  speed := 25
  transpose := 0
  synValid := false
  res := 0
  resValid := false
  tmask := false
  tpend := false
  hist := []
  stream := []
  ci := 0
  cfg := Config.chip
  env := Env.fresh

end Sys2Proof.Machine
end

