-- ==== Sys2Proof/Machine/Operands.lean ====
section
/-! DEFINITION. The arithmetic of the rules on operand values (spec/00_scope.md R11): clamps and absolute differences, and
the host's elapsed time on clock values (spec/40_clock.md R103). Operands reach an operation as the decoder assembles them
(R82); "No operand is scaled or shifted". -/

namespace Sys2Proof.Machine

/-- R11: `clamp(v, lo, hi)` is `lo` if `v < lo`, `hi` if `v > hi`, else `v`. -/
def clamp (v lo hi : Nat) : Nat := if v < lo then lo else if hi < v then hi else v

/-- R11's clamp on signed values (the semitone operands, the shifted table index). -/
def clampInt (v lo hi : Int) : Int := if v < lo then lo else if hi < v then hi else v

/-- R11: `absdiff(a, b)` is `a - b` if `a >= b`, else `b - a`. -/
def absdiff (a b : Nat) : Nat := if b ≤ a then a - b else b - a

/-- The duty operand of SYNCFG and TONE after its clamp to 10..100. R145, R150, R181 E2. -/
def clampDuty (duty : Nat) : Nat := clamp duty dutyMin dutyMax

/-- The speed operand of SYNCFG after its clamp to 25..10000. R145, R181 E2. -/
def clampSpeed (speed : Nat) : Nat := clamp speed speedMin speedMax

/-- The semitone operand of SYNCFG and TRANSP after its clamp to -12..+12. R145, R148, R181 E2. -/
def clampSemitones (n : Int) : Int := clampInt n trMin trMax

/-- R116: the channel a LEDSET operand selects; indices 4..255 "select nothing" (R61). -/
def channelOf (ch : Nat) : Option (Fin 4) := if h : ch < 4 then some ⟨ch, h⟩ else none

/-- R103: `ELAPSED(now, start) = (now - start) mod 2^32`, the host's arithmetic on two MILLIS results. -/
def elapsed (now start : Word) : Word := now - start

/-- R103: a host tests a timeout as `ELAPSED(now, start) >= duration`. -/
def timedOut (now start : Word) (duration : Nat) : Bool := decide (duration ≤ (elapsed now start).toNat)

end Sys2Proof.Machine
end

