-- ==== Sys2Proof/Machine/Ops.lean ====
section
/-! DEFINITION. The named operations on the state: the primitives of spec/00_scope.md R14 (Emit, SetLevel, SetDir, Delay,
AdcConvert, TableRead, Return, Drives), the one interrupt of spec/60_exceptions.md R185 to R190 (the block has no other
exception, R180), and the host's read of RES (R38, R88). -/

namespace Sys2Proof.Machine

/-- R14: `Emit(e)` appends event `e` to HIST. -/
def State.emit (s : State) (e : Event) : State := { s with hist := s.hist ++ [e] }

/-- DIR[p]. R34. -/
def State.dirOf (s : State) (p : Pin) : Dir := s.dir[p.index]

/-- LEVEL[p]. R35. -/
def State.levelOf (s : State) (p : Pin) : Bool := s.level[p.index]

/-- R14: `SetLevel(p, v)` does `LEVEL[p] <- v; Emit(Level(p, v))`. -/
def State.setLevel (s : State) (p : Pin) (v : Bool) : State :=
  { s with level := s.level.set p.index v }.emit (.level p v)

/-- R14: `SetDir(p, d)` does `DIR[p] <- d; Emit(Dir(p, d))`. -/
def State.setDir (s : State) (p : Pin) (d : Dir) : State :=
  { s with dir := s.dir.set p.index d }.emit (.dir p d)

/-- OWNER <- o. R36. -/
def State.setOwner (s : State) (o : Owner) : State := { s with owner := o }

/-- R14: `Drives(p)`, "the block drives pin p high". -/
def State.drives (s : State) (p : Pin) : Bool := decide (s.dirOf p = .output) && s.levelOf p

/-- The shared pin LED[SH]. R33. -/
def State.sharedPin (s : State) : Pin := .led s.cfg.sh

/-- `for c = 0, 1, 2, 3: SetLevel(LED[c], f c)`: the four LED levels in channel order (R112, 92 D9). -/
def State.writeLeds (s : State) (f : Fin 4 → Bool) : State :=
  (((s.setLevel (.led 0) (f 0)).setLevel (.led 1) (f 1)).setLevel (.led 2) (f 2)).setLevel (.led 3) (f 3)

/-- `for c = 0, 1, 2, 3: SetDir(LED[c], out)` (R110). -/
def State.ledsOut (s : State) : State :=
  (((s.setDir (.led 0) .output).setDir (.led 1) .output).setDir (.led 2) .output).setDir (.led 3) .output

/-- R100: TICK, `MS <- (MS + 1) mod 2^32; Emit(Tick)`. -/
def State.tick (s : State) : State := { s with ms := s.ms + 1 }.emit .tick

/-- The one interrupt, taken or latched: TICK is enabled when TIMER_RUN = 1 (R100); a tick that falls due while TMASK = 1 is
held in TPEND, one deep (R186); otherwise the fixed handler TICK runs (R187). Entry and return change nothing else (R189,
R190). -/
def State.tickDue (s : State) : State :=
  if s.timerRun then (if s.tmask then { s with tpend := true } else s.tick) else s

/-- `k` ticks fall due one after another. -/
def State.ticksDue (s : State) : Nat → State
  | 0 => s
  | k + 1 => s.tickDue.ticksDue k

/-- The number of TICKs that fall due at this point: the next count given from outside, else a free value, of
which no more is known than weak fairness (R101). R230, log 3. -/
def State.nextTicks (s : State) : Nat :=
  match s.env.ticks with
  | k :: _ => k
  | [] => Config.freeTicks.count s.env.tickNo

/-- One tick count has been taken. Log 3. -/
def State.takeTicks (s : State) : State :=
  { s with env := { s.env with ticks := s.env.ticks.tail, tickNo := s.env.tickNo + 1 } }

/-- A point at which the tick agent may act (between two host commands, inside a `Delay`: R67 b, R70): any number of TICKs
when TIMER_RUN = 1, none otherwise (R100). -/
def State.tickPoint (s : State) : State :=
  if s.timerRun then s.takeTicks.ticksDue s.nextTicks else s

/-- R14: `Delay(us)` does `Emit(Wait(us))`; while it lasts the tick agent may take any number of TICK steps; no other state
changes. `Delay(0)` still emits `Wait(0)`. -/
def State.delay (s : State) (us : Nat) : State := (s.emit (.wait us)).tickPoint

/-- R186: the tick interrupt is masked (inside MILLIS only). -/
def State.maskTick (s : State) : State := { s with tmask := true }

/-- R102, R186: the mask is dropped, and a tick held in TPEND is taken at the unmask. -/
def State.unmaskTick (s : State) : State :=
  if s.tpend then { s with tmask := false, tpend := false }.tickDue else { s with tmask := false }

/-- R14, R133: the value of `AdcConvert()`, the next answer given from outside, else a free value in 0..1023. Log 2. -/
def State.nextSample (s : State) : Sample :=
  match s.env.samples with
  | v :: _ => v
  | [] => Config.freeSample s.env.sampleNo

/-- One conversion has been answered. Log 2. -/
def State.takeSample (s : State) : State :=
  { s with env := { s.env with samples := s.env.samples.tail, sampleNo := s.env.sampleNo + 1 } }

/-- R14: `TableRead(i)` returns CHROMA[i]; "it is never called with another index" than 0..NT-1, so what it answers past the
table is read by no rule. -/
def tableRead (c : Config) (i : Nat) : Nat := c.chroma.getD i 0

/-- R14, R88: `Return(v)` does `RES <- zext_32(v); Emit(Result(v))`. -/
def State.returnValue (s : State) (v : Word) : State :=
  { s with res := v, resValid := true }.emit (.result v)

/-- R38, R88: the host reads RES between commands; before the first result-bearing command it is refused
by the model (R183, 93 I5). -/
def State.hostReadRes (s : State) : Except Refusal Word :=
  if s.resValid then .ok s.res else .error .resNotWritten

end Sys2Proof.Machine
end

