-- ==== Sys2Proof/Machine/Flags.lean ====
section
/-! DEFINITION. The two flags of the block, SWP and SAFE (spec/10_state.md R30, R31; "There is no other flag", R32), and
every way a rule computes them. -/

namespace Sys2Proof.Machine

/-- SWP <- 1: LEDSET with a valid channel. R30, R116. -/
def State.raiseSwp (s : State) : State := { s with swp := true }

/-- SWP <- 0: UPDATE when it performs the swap, and INIT. R30, R112, R110. -/
def State.clearSwp (s : State) : State := { s with swp := false }

/-- SAFE <- 0: consumed by a read (R133), dropped by UPDATE in the on-phase (R113). -/
def State.dropSafe (s : State) : State := { s with safe := false }

/-- R113 line 12: in the off-phase SAFE is raised when SUBCNT = 0 and unchanged otherwise. -/
def State.raiseSafe (s : State) : State := if s.subcnt = 0 then { s with safe := true } else s

/-- R112 line 2: the step is a cycle boundary, PWMCNT = 0. -/
def State.atBoundary (s : State) : Bool := s.pwmcnt == 0

/-- R112 line 8: channel `c` is in its on-phase, `ACTIVE[c] > PWMCNT`, unsigned 8-bit (R11, R17). -/
def State.onPhase (s : State) (c : Fin 4) : Bool := decide (s.pwmcnt < s.active[c])

end Sys2Proof.Machine
end

