-- ==== Sys2Proof/Machine/Clock.lean ====
section
/-! DEFINITION. The millisecond clock (spec/40_clock.md): MILLIS. TICK, the tick agent's step, is `State.tick` in Ops. -/

namespace Sys2Proof.Machine

/-- MILLIS, R102: `TMASK <- 1`, copy MS, `TMASK <- 0`, and a tick held meanwhile is taken after the copy. One atomic step:
the result is all 32 bits of MS from one instant. -/
def execMillis (s : State) : Host.Outcome State Fault Refusal :=
  .next (s.maskTick.returnValue s.ms).unmaskTick

end Sys2Proof.Machine
end

