-- ==== Sys2Proof/Machine/Pwm.lean ====
section
/-! DEFINITION. The PWM double buffer, the LED driver and the GPIO multiplexer (spec/41_pwm.md): INIT, UPDATE, LEDSET,
LEDOFF. -/

namespace Sys2Proof.Machine

/-- Both brightness banks zero. R110, R118. -/
def State.zeroBanks (s : State) : State :=
  { s with active := Vector.replicate 4 0, pending := Vector.replicate 4 0 }

/-- R110: CLK_FULL <- 1, "disable any clock-divider prescaling for full speed". -/
def State.fullClock (s : State) : State := { s with clkFull := true }

/-- R110: TIMER_RUN <- 1, "start the millisecond timer". -/
def State.startTimer (s : State) : State := { s with timerRun := true }

/-- R110: ADC_READY <- 1 if MIC_ENABLE. -/
def State.initAdc (s : State) : State := { s with adcReady := s.cfg.micEnable || s.adcReady }

/-- INIT, R110, line by line: CLK_FULL, the banks, SWP, the LED directions, OWNER, TIMER_RUN, and ADC_READY if MIC_ENABLE. -/
def execInit (s : State) : Host.Outcome State Fault Refusal :=
  .next (s.fullClock.zeroBanks.clearSwp.ledsOut.setOwner .LED).startTimer.initAdc

/-- R112 line 1: the cycle counter advances modulo 256. -/
def State.countStep (s : State) : State := { s with pwmcnt := s.pwmcnt + 1 }

/-- R112 line 3: SUBCNT advances modulo SAMPLE_DIV. -/
def State.countCycle (s : State) : State := { s with subcnt := (s.subcnt + 1) % s.cfg.sampleDiv }

/-- R112 line 5: the four pending values become active as one action (R67 d). -/
def State.copyBanks (s : State) : State := { s with active := s.pending }

/-- R112 lines 4 to 6: when SWP = 1 the banks are copied and SWP is cleared. -/
def State.swapBanks (s : State) : State := if s.swp then s.copyBanks.clearSwp else s

/-- R112 lines 1 to 6: the counter, and at a cycle boundary SUBCNT and a pending swap. -/
def State.advancePwm (s : State) : State :=
  if s.countStep.atBoundary then s.countStep.countCycle.swapBanks else s.countStep

/-- R113 lines 9 to 16: with MIC_ENABLE the shared pin becomes an output in its channel's on-phase (SAFE dropped) and an input
in its off-phase (SAFE raised in a qualifying cycle); without it only OWNER is written. -/
def State.arbitrateSharedPin (s : State) : State :=
  if s.cfg.micEnable then
    if s.onPhase s.cfg.sh then ((s.setDir s.sharedPin .output).setOwner .LED).dropSafe
    else ((s.setDir s.sharedPin .input).setOwner .MIC).raiseSafe
  else s.setOwner .LED

/-- UPDATE, R112 and R113: counter and swap, then the four levels, then the shared pin. "This function must never block." -/
def execUpdate (s : State) : Host.Outcome State Fault Refusal :=
  .next (s.advancePwm.writeLeds s.advancePwm.onPhase).arbitrateSharedPin

/-- R116: PENDING[c] <- b. -/
def State.setPending (s : State) (c : Fin 4) (b : Byte) : State := { s with pending := s.pending.set c b }

/-- LEDSET ch, br: R116. A channel index of 4 or more is a silent no-op (R181 E1). -/
def execLedset (ch br : Nat) (s : State) : Host.Outcome State Fault Refusal :=
  match channelOf ch with
  | some c => .next (s.setPending c (BitVec.ofNat 8 br)).raiseSwp
  | none => .next s

/-- LEDOFF, R118: both banks zero and all LED pins low at once; SWP and SAFE unchanged. -/
def execLedoff (s : State) : Host.Outcome State Fault Refusal :=
  .next (s.zeroBanks.writeLeds fun _ => false)

end Sys2Proof.Machine
end

