-- ==== Sys2Proof/Machine/Sampling.lean ====
section
/-! DEFINITION. The analog-input sampling arbiter (spec/42_sampling.md): MICINIT, MICREAD, MICREADF. -/

namespace Sys2Proof.Machine

/-- R130: PULL_SH <- 0 and ADC_READY <- 1. -/
def State.configureAdc (s : State) : State := { s with pullSh := false, adcReady := true }

/-- R130's body, shared with MELEND (R163): the shared pin becomes the analog input, its pull resistor is off, the converter
is configured, and the settling delay passes. -/
def State.micHandover (s : State) : State :=
  (((s.setDir s.sharedPin .input).setOwner .MIC).configureAdc).delay s.cfg.micSettleUs

/-- MICINIT, R130; refused when the build has no microphone (R129). -/
def execMicinit (s : State) : Host.Outcome State Fault Refusal :=
  if s.cfg.micEnable then .next s.micHandover else .refused .micNotBuilt

/-- `ReadOne()`, R133 to R135: when SAFE = 0 the bounded wait runs to its timeout; SAFE is consumed; the conversion takes its
requested time and yields a draw, whatever the pin is doing; the Sample event records the value, whether SAFE was 1, and the
shared pin's direction at the conversion. -/
def State.readOne (s : State) : State × Sample :=
  let t := ((if s.safe then s else s.delay s.cfg.micWaitUs).dropSafe).delay s.cfg.adcConvUs
  (t.takeSample.emit (.sample t.nextSample s.safe (t.dirOf t.sharedPin)), t.nextSample)

/-- MICREAD, R133; refused when the build has no microphone (R129). -/
def execMicread (s : State) : Host.Outcome State Fault Refusal :=
  if s.cfg.micEnable then .next (s.readOne.1.returnValue (s.readOne.2.setWidth 32)) else .refused .micNotBuilt

/-- R137's loop with `n` reads still to make and `sum` so far: a delay between two reads, none after the last. Yields the
state and the exact sum. -/
def State.readMany (s : State) (sum : Nat) : Nat → State × Nat
  | 0 => (s, sum)
  | 1 => (s.readOne.1, sum + s.readOne.2.toNat)
  | n + 2 => (s.readOne.1.delay s.cfg.micFilterDelayUs).readMany (sum + s.readOne.2.toNat) (n + 1)

/-- MICREADF, R137: the floor of the mean of MIC_FILTER_N reads; refused when the build has no microphone (R129). -/
def execMicreadf (s : State) : Host.Outcome State Fault Refusal :=
  if s.cfg.micEnable then
    .next ((s.readMany 0 s.cfg.micFilterN).1.returnValue
      (BitVec.ofNat 32 ((s.readMany 0 s.cfg.micFilterN).2 / s.cfg.micFilterN)))
  else .refused .micNotBuilt

end Sys2Proof.Machine
end

