-- ==== Sys2Proof/Machine/Tone.lean ====
section
/-! DEFINITION. The fixed-point tone synthesizer and the audio indicator (spec/43_tone.md): SYNCFG, BUZON, TRANSP, TONE, NOTE,
GAP, AIND, AINDOFF, MELEND. All arithmetic is on exact integers with floor division (R11). -/

namespace Sys2Proof.Machine

/-- SYNCFG duty, speed, n: R145, the three operands clamped and stored, SYN_VALID <- 1. -/
def execSyncfg (duty speed : Nat) (n : Int) (s : State) : Host.Outcome State Fault Refusal :=
  .next { s with duty := clampDuty duty, speed := clampSpeed speed, transpose := clampSemitones n, synValid := true }

/-- BUZON, R146: the buzzer pin an output, driven low. -/
def execBuzon (s : State) : Host.Outcome State Fault Refusal :=
  .next ((s.setDir .buzz .output).setLevel .buzz false)

/-- One turn of R148's `Nearest` loop: the index moves to `i` when its entry is strictly closer (a tie keeps the lower). -/
def closer (c : Config) (f best i : Nat) : Nat :=
  if absdiff (tableRead c i) f < absdiff (tableRead c best) f then i else best

/-- R148: `Nearest(f)`, the least index whose entry is closest to `f`. -/
def nearest (c : Config) (f : Nat) : Nat := (List.range' 1 (c.nt - 1)).foldl (closer c f) 0

/-- R148: the shifted index, a signed sum clamped to the table's bounds. -/
def shiftIndex (c : Config) (i : Nat) (n : Int) : Nat := (clampInt (i + n) 0 ((c.nt : Int) - 1)).toNat

/-- R148: `Transpose(f, n)` for `n` in -12..+12; a rest is returned unchanged. -/
def transposeFreq (c : Config) (f : Nat) (n : Int) : Nat :=
  if f = 0 then 0 else tableRead c (shiftIndex c (nearest c f) n)

/-- TRANSP f, n: R148. -/
def execTransp (f : Nat) (n : Int) (s : State) : Host.Outcome State Fault Refusal :=
  .next (s.returnValue (BitVec.ofNat 32 (transposeFreq s.cfg f (clampSemitones n))))

/-- R150: the full period in microseconds, `1000000 / f` (used with `f >= 1`). -/
def tonePeriod (f : Nat) : Nat := 1000000 / f

/-- R150: the high part of the period, `period * duty / 100`. -/
def toneHigh (f duty : Nat) : Nat := tonePeriod f * duty / 100

/-- R150: the low part, `period - high`. -/
def toneLow (f duty : Nat) : Nat := tonePeriod f - toneHigh f duty

/-- R150: the number of cycles, `f * d / 1000`. -/
def toneCycles (f d : Nat) : Nat := f * d / 1000

/-- R150: one cycle of the wave, high first, then low. -/
def State.waveCycle (s : State) (high low : Nat) : State :=
  (((s.setLevel .buzz true).delay high).setLevel .buzz false).delay low

/-- R150: `repeat cycles times`. -/
def State.wave (s : State) (high low : Nat) : Nat → State
  | 0 => s
  | k + 1 => (s.waveCycle high low).wave high low k

/-- R150: `PlayTone(f, d, duty)`; frequency 0 is a rest of `d` milliseconds with no toggling. -/
def State.playTone (s : State) (f d duty : Nat) : State :=
  if f = 0 then s.delay (d * 1000) else s.wave (toneHigh f duty) (toneLow f duty) (toneCycles f d)

/-- TONE f, d, duty: R150, with duty clamped to 10..100. -/
def execTone (f d duty : Nat) (s : State) : Host.Outcome State Fault Refusal :=
  .next (s.playTone f d (clampDuty duty))

/-- R158: `Band(f)` for `f >= 1`; a threshold value belongs to the upper band. -/
def band (c : Config) (f : Nat) : Fin 4 :=
  if f < c.bandT1 then 0 else if f < c.bandT2 then 1 else if f < c.bandT3 then 2 else 3

/-- R158: whether channel `c` is lit for frequency `f`: none for 0, the one channel of the band otherwise. -/
def indicatorLit (cfg : Config) (f : Nat) (c : Fin 4) : Bool :=
  if f = 0 then false else decide (c = cfg.indCh[band cfg f])

/-- R158: `Indicate(f)`: the shared pin becomes an output owned by the indicator, then the four levels are written. -/
def State.indicate (s : State) (f : Nat) : State :=
  ((s.setDir s.sharedPin .output).setOwner .AIND).writeLeds (indicatorLit s.cfg f)

/-- R158: `IndicateOff()`: the four LED levels are written 0. -/
def State.indicateOff (s : State) : State := s.writeLeds fun _ => false

/-- AIND f: R158. -/
def execAind (f : Nat) (s : State) : Host.Outcome State Fault Refusal :=
  .next (s.indicate f)

/-- AINDOFF, R160: directions and owner are not written. -/
def execAindoff (s : State) : Host.Outcome State Fault Refusal :=
  .next s.indicateOff

/-- R153: the scaled duration `d * 100 / SPEED`. -/
def scaledMs (d speed : Nat) : Nat := d * 100 / speed

/-- NOTE f, d: R153. Refused with SYN_VALID = 0 (R183, 93 I4), and outside the admitted domain, where the
source gives no width (R183, 93 I7). -/
def execNote (f d : Nat) (s : State) : Host.Outcome State Fault Refusal :=
  if s.synValid then
    if scaledMs d s.speed ≤ 65535 then
      .next ((s.indicate f).playTone (transposeFreq s.cfg f s.transpose) (scaledMs d s.speed) s.duty)
    else .refused .noteOutOfDomain
  else .refused .synthNotConfigured

/-- GAP, R156: the indicator off, then a rest of the scaled gap. Refused with SYN_VALID = 0 (R183, 93 I4). -/
def execGap (s : State) : Host.Outcome State Fault Refusal :=
  if s.synValid then .next (s.indicateOff.playTone 0 (scaledMs noteGapMs s.speed) s.duty)
  else .refused .synthNotConfigured

/-- MELEND, R163: the indicator off and, with MIC_ENABLE, R130's body and then the Recal event. -/
def execMelend (s : State) : Host.Outcome State Fault Refusal :=
  if s.cfg.micEnable then .next (s.indicateOff.micHandover.emit .recal) else .next s.indicateOff

end Sys2Proof.Machine
end

