-- ==== Sys2Proof/Machine/Dispatch.lean ====
section
/-! DEFINITION. The meaning of a host command: one arm per constructor of Instr, each one direct call of its meaning. -/

namespace Sys2Proof.Machine

def exec (i : Instr) (s : State) : Host.Outcome State Fault Refusal :=
  match i with
  | .millis => Sys2Proof.Machine.execMillis s
  | .init => Sys2Proof.Machine.execInit s
  | .update => Sys2Proof.Machine.execUpdate s
  | .ledset ch br => Sys2Proof.Machine.execLedset ch br s
  | .ledoff => Sys2Proof.Machine.execLedoff s
  | .micinit => Sys2Proof.Machine.execMicinit s
  | .micread => Sys2Proof.Machine.execMicread s
  | .micreadf => Sys2Proof.Machine.execMicreadf s
  | .syncfg duty speed n => Sys2Proof.Machine.execSyncfg duty speed n s
  | .buzon => Sys2Proof.Machine.execBuzon s
  | .tone f d duty => Sys2Proof.Machine.execTone f d duty s
  | .note f d => Sys2Proof.Machine.execNote f d s
  | .gap => Sys2Proof.Machine.execGap s
  | .melend => Sys2Proof.Machine.execMelend s
  | .transp f n => Sys2Proof.Machine.execTransp f n s
  | .aind f => Sys2Proof.Machine.execAind f s
  | .aindoff => Sys2Proof.Machine.execAindoff s

end Sys2Proof.Machine
end

