-- ==== Sys2Proof/Machine/Fetch.lean ====
section
/-! DEFINITION. Reading the host's command stream (spec/30_encoding.md R80, spec/10_state.md R44): the command at the command
index, moving past it, and placing a command where the next one is read. -/

namespace Sys2Proof.Machine

/-- R80: the command at byte offset `ci` of the stream, or why there is none (R85, R232). -/
def State.fetch (s : State) : Except DecodeError Instr :=
  match decode (s.stream.drop s.ci) with
  | .ok (i, _) => .ok i
  | .error e => .error e

/-- R44, R80: "the next command starts at `ci + L`". -/
def State.passCommand (s : State) (i : Instr) : State := { s with ci := s.ci + i.length }

/-- The bytes `bs` at offset `at` of a stream, the other bytes kept; zeros before them where the stream is shorter. -/
def placeBytes (stream : List Byte) (off : Nat) (bs : List Byte) : List Byte :=
  stream.take off ++ List.replicate (off - stream.length) 0 ++ bs ++ stream.drop (off + bs.length)

/-- The table word's bytes placed at the command index (log 9, log 10). -/
def State.placeTableWord (s : State) (nbits w : Nat) : State :=
  { s with stream := placeBytes s.stream s.ci (tableBytes nbits w) }

end Sys2Proof.Machine
end

