-- ==== Sys2Proof/Machine/Step.lean ====
section
/-! DEFINITION. One step of the machine: the TICKs that fall due before the next command, then that command (spec/00_scope.md
R3, spec/20_memory.md R67, R70). -/

namespace Sys2Proof.Machine

/-- One step. Between two commands the tick agent may take any number of TICKs (`State.tickPoint`, R70); then the host's next
command runs to completion and the command index moves past it (R44). At the end of the stream the host issues nothing (R211,
R232) and only the tick agent has acted: log 9. A reserved opcode byte or a truncated command is refused (R85). -/
def step (s : State) : Host.Outcome State Fault Refusal :=
  match s.tickPoint.fetch with
  | .ok i =>
    match exec i s.tickPoint with
    | .next t => .next (t.passCommand i)
    | .fault f => .fault f
    | .refused r => .refused r
  | .error .endOfStream => .next s.tickPoint
  | .error (.reservedOpcode op) => .refused (.reservedOpcode op)
  | .error (.truncated m) => .refused (.truncatedCommand m)

/-- `s` with the table word's command where `step` reads its next command. Log 9, 10. -/
def State.withFetchWord (s : State) (nbits w : Nat) : State := s.placeTableWord nbits w

end Sys2Proof.Machine
end

