-- ==== Sys2Proof/Machine/Pseudo.lean ====
section
/-! DEFINITION. The pseudo-operations of spec/30_encoding.md R92 and R93: expansions into host commands, none with an encoding
of its own. -/

namespace Sys2Proof.Machine

/-- R92, `play_melody` step 4: the notes in order, one GAP after every note except the last. -/
def melodyNotes : List (Nat × Nat) → List Instr
  | [] => []
  | [x] => [.note x.1 x.2]
  | x :: y :: xs => .note x.1 x.2 :: .gap :: melodyNotes (y :: xs)

/-- R92: `MELODY duty, speed, n, (f1,d1), ..., (fk,dk)`; for `k = 0` it expands to nothing. -/
def melody (duty speed : Nat) (n : Int) : List (Nat × Nat) → List Instr
  | [] => []
  | x :: xs => .syncfg duty speed n :: .buzon :: (melodyNotes (x :: xs) ++ [.melend])

/-- R93: `REST d` stands for `NOTE 0, d`. -/
def restNote (d : Nat) : List Instr := [.note 0 d]

/-- R93: `LEDALL b0, b1, b2, b3`. -/
def ledAll (b0 b1 b2 b3 : Nat) : List Instr := [.ledset 0 b0, .ledset 1 b1, .ledset 2 b2, .ledset 3 b3]

end Sys2Proof.Machine
end

