-- ==== Sys2Proof/Safety.lean ====
section
/-! DEFINITION. What the claims speak of: running commands one after another, the invariant of the machine, what the history
says of pins, clock and result, a fresh safe-to-sample flag (spec/42_sampling.md R136), infinite runs and the weak fairness of
the tick agent (spec/40_clock.md R101), and states that differ in unread registers only (spec/10_state.md R47). -/

namespace Sys2Proof.Machine

/-- The commands in order, each to completion, with no TICK between them; stops at the first refusal. -/
def execAll : List Instr → State → Host.Outcome State Fault Refusal
  | [], s => .next s
  | i :: is, s =>
    match exec i s with
    | .next t => execAll is t
    | .fault f => .fault f
    | .refused r => .refused r

/-- `n` UPDATEs in a row. -/
def updates (n : Nat) (s : State) : Host.Outcome State Fault Refusal := execAll (List.replicate n .update) s

/-- The level LEVEL[p] must have after the events: the last `Level(p, v)`, else the reset level. -/
def lastLevel (p : Pin) (h : List Event) : Bool :=
  h.foldl (fun v e => match e with | .level q w => if q = p then w else v | _ => v) false

/-- The direction DIR[p] must have after the events: the last `Dir(p, d)`, else the reset direction. -/
def lastDir (p : Pin) (h : List Event) : Dir :=
  h.foldl (fun v e => match e with | .dir q d => if q = p then d else v | _ => v) .input

/-- The value RES must have after the events: the last `Result(v)`, none before the first. -/
def lastResult (h : List Event) : Option Word :=
  h.foldl (fun v e => match e with | .result w => some w | _ => v) none

/-- The history without its Tick events: what the commands themselves did. -/
def quiet (h : List Event) : List Event := h.filter fun e => decide (e ≠ .tick)

/-- The requested delays of the events, summed. R230. -/
def requestedUs (h : List Event) : Nat :=
  h.foldl (fun n e => match e with | .wait us => n + us | _ => n) 0

/-- The events of writing the four LED levels, in channel order (92 D9). -/
def ledEvents (f : Fin 4 → Bool) : List Event :=
  [.level (.led 0) (f 0), .level (.led 1) (f 1), .level (.led 2) (f 2), .level (.led 3) (f 3)]

/-- The events of one wave of `cycles` cycles, R150: high, its delay, low, its delay. -/
def waveEvents (high low cycles : Nat) : List Event :=
  (List.replicate cycles [.level .buzz true, .wait high, .level .buzz false, .wait low]).flatten

/-- Whether the event is a conversion. -/
def Event.isSample : Event → Bool
  | .sample _ _ _ => true
  | _ => false

/-- The answer the environment will give `k` conversions from now. -/
def State.draw (s : State) (k : Nat) : Sample :=
  match s.env.samples.drop k with
  | v :: _ => v
  | [] => Config.freeSample (s.env.sampleNo + k)

/-- The sum of the next `n` answers. -/
def State.drawSum (s : State) (n : Nat) : Nat := ((List.range n).map fun k => (s.draw k).toNat).sum

/-- What holds at reset and after every step. -/
structure State.Inv (s : State) : Prop where
  /-- SUBCNT is in 0..SAMPLE_DIV-1. R25. -/
  subcnt : s.subcnt < s.cfg.sampleDiv
  /-- Once SYNCFG has executed DUTY is in 10..100: "an out-of-range value is never held". R37. -/
  duty : s.synValid = true → 10 ≤ s.duty ∧ s.duty ≤ 100
  /-- Once SYNCFG has executed SPEED is in 25..10000. R37. -/
  speed : s.synValid = true → 25 ≤ s.speed ∧ s.speed ≤ 10000
  /-- Once SYNCFG has executed TRANSPOSE is in -12..+12. R37. -/
  transpose : s.synValid = true → -12 ≤ s.transpose ∧ s.transpose ≤ 12
  /-- TMASK and TPEND are 0 between two steps. R39. -/
  unmasked : s.tmask = false ∧ s.tpend = false
  /-- With TIMER_RUN = 0, MS stays at its reset value. R100. -/
  clockStopped : s.timerRun = false → s.ms = 0
  /-- The timer runs only at full clock: INIT does both, and nothing undoes either. R26, R27. -/
  clockFull : s.timerRun = true → s.clkFull = true
  /-- The microphone owns the shared pin only in a build with one, and only while the pin is an input. R36, R113, R130. -/
  ownerMic : s.owner = .MIC → s.cfg.micEnable = true ∧ s.dirOf s.sharedPin = .input
  /-- The audio indicator owns the shared pin only while it is an output. R36, R158. -/
  ownerAind : s.owner = .AIND → s.dirOf s.sharedPin = .output
  /-- SAFE is never raised in a build without a microphone. R113. -/
  safeMic : s.safe = true → s.cfg.micEnable = true
  /-- The converter is configured only in a build with a microphone. R28. -/
  adcMic : s.adcReady = true → s.cfg.micEnable = true
  /-- The command index stays within the stream. R44, R80. -/
  index : s.ci ≤ s.stream.length

/-- The history tells the whole of the pins, the clock and the result: R46, "HIST is the observable behaviour of the block". -/
structure State.Faithful (s : State) : Prop where
  /-- MS counts the Tick events modulo 2^32. R100, R104. -/
  clock : s.ms = BitVec.ofNat 32 (s.hist.count .tick)
  /-- Every level is the last one written. R14, R35. -/
  levels : ∀ p, s.levelOf p = lastLevel p s.hist
  /-- Every direction is the last one written. R14, R34. -/
  dirs : ∀ p, s.dirOf p = lastDir p s.hist
  /-- RES is the last result returned, and the host may read it once there is one. R38, R88. -/
  result : s.hostReadRes.toOption = lastResult s.hist

/-- The safe-to-sample flag is fresh: raised only while the shared pin is an input (R115, R136). -/
def State.SafeFresh (s : State) : Prop := s.safe = true → s.dirOf s.sharedPin = .input

/-- C2 of spec/90_conflicts.md: "no sample with `safe = 1` and direction out". -/
def NoUnsafeSample (h : List Event) : Prop := ∀ v, Event.sample v true .output ∉ h

/-- An infinite run: every state steps to the next one. R232 ends a program's run at the end of its stream; what goes on for
ever after it is the tick agent (log 9). -/
def IsRun (σ : Nat → State) : Prop := ∀ n, step (σ n) = .next (σ (n + 1))

/-- R101, R230 (c): weak fairness of the tick agent, "while `TIMER_RUN = 1`, in an infinite run the tick agent steps
infinitely often": from every point on at which TIMER_RUN stays 1, a later step of the run holds a TICK. -/
def WeaklyFair (σ : Nat → State) : Prop :=
  ∀ n, (∀ m, n ≤ m → (σ m).timerRun = true) → ∃ m, n ≤ m ∧ (σ m).hist.count .tick < (σ (m + 1)).hist.count .tick

/-- The two states differ at most in registers whose values R47 leaves open and no rule reads: CLK_FULL and PULL_SH always,
DUTY, SPEED and TRANSPOSE before the first SYNCFG (R37), RES before the first result (R38). -/
structure State.AgreeOnRead (s t : State) : Prop where
  rest : t = { s with
    clkFull := t.clkFull, pullSh := t.pullSh, duty := t.duty, speed := t.speed, transpose := t.transpose, res := t.res }
  configuration : s.synValid = true → t.duty = s.duty ∧ t.speed = s.speed ∧ t.transpose = s.transpose
  result : s.resValid = true → t.res = s.res

end Sys2Proof.Machine
end

