-- ==== Sys2Proof/Certificates/Slice0/Obligations.lean ====
section
/-! DEFINITION. The statements for the provers. Each docstring says which rule of spec/ it formalises. What a state lets the
tick agent do inside a command shows as Tick events, the tick fields (ms, tpend) and env only; `quiet` leaves the Tick events
out, so that a statement over `quiet` holds whatever the tick agent does. The block has no memory (R60): the frames speak of
every register, every pin, the history, the host's stream and index, and the parameters. -/

open Sys2Proof Sys2Proof.Machine

/-! ## Encoding -/

/-- R80 to R82, R84, R87: for every well-formed command, with any bytes after it, decoding its bytes gives it back and leaves
exactly those bytes. -/
def Obligations.DecodeEncodeEveryCommand : Prop :=
  ∀ (i : Instr) (rest : List Byte), i.wellFormed = true → decode (encode i ++ rest) = .ok (i, rest)

/-- R80, R82, R86: the decoder accepts nothing but encodings of well-formed commands, and drops no bit of them. -/
def Obligations.DecodeOnlyEncodings : Prop :=
  ∀ (bs : List Byte) (i : Instr) (rest : List Byte), decode bs = .ok (i, rest) →
    i.wellFormed = true ∧ bs = encode i ++ rest ∧ bs.length = i.length + rest.length

/-- R85: the 239 reserved bytes, by the ranges the rule lists, and streams that end inside a command, are refused by the
decoder and by the step; every other byte is an opcode. -/
def Obligations.ReservedAndTruncatedRefused : Prop :=
  (∀ (op : Byte) (bs : List Byte),
    (op.toNat ≤ 0x0F ∨ (0x11 ≤ op.toNat ∧ op.toNat ≤ 0x1F) ∨ (0x24 ≤ op.toNat ∧ op.toNat ≤ 0x2F) ∨
      (0x33 ≤ op.toNat ∧ op.toNat ≤ 0x3F) ∨ 0x49 ≤ op.toNat) →
    decode (op :: bs) = .error (.reservedOpcode op) ∧
      ∀ s : State, s.stream.drop s.ci = op :: bs → step s = .refused (.reservedOpcode op)) ∧
  (∀ op : Byte,
    ¬ (op.toNat ≤ 0x0F ∨ (0x11 ≤ op.toNat ∧ op.toNat ≤ 0x1F) ∨ (0x24 ≤ op.toNat ∧ op.toNat ≤ 0x2F) ∨
      (0x33 ≤ op.toNat ∧ op.toNat ≤ 0x3F) ∨ 0x49 ≤ op.toNat) → ∃ m : Mnemonic, m.opcode = op) ∧
  (∀ (i : Instr) (k : Nat), 1 ≤ k → k < i.length →
    decode ((encode i).take k) = .error (.truncated i.mnemonic) ∧
      ∀ s : State, s.stream.drop s.ci = (encode i).take k → step s = .refused (.truncatedCommand i.mnemonic))

/-- R81, R82, R84: byte strings of spec/95_test_vectors.md 2.9 and of the opcode table decode to the commands they stand for. -/
def Obligations.SpecWordsDecode : Prop :=
  decode [0x10] = .ok (.millis, []) ∧
  decode [0x22, 0x03, 0xFF] = .ok (.ledset 3 255, []) ∧
  decode [0x22, 0x01, 0x02, 0x21] = .ok (.ledset 1 2, [0x21]) ∧
  decode [0x31] = .ok (.micread, []) ∧
  decode [0x40, 0x0A, 0x10, 0x27, 0xF4] = .ok (.syncfg 10 10000 (-12), []) ∧
  decode [0x42, 0xB8, 0x01, 0xF4, 0x01, 0x50] = .ok (.tone 440 500 80, []) ∧
  decode [0x43, 0x00, 0x00, 0xF4, 0x01] = .ok (.note 0 500, []) ∧
  decode [0x46, 0xB8, 0x01, 0xF4] = .ok (.transp 440 (-12), []) ∧
  decode [0x47, 0xB8, 0x01] = .ok (.aind 440, []) ∧
  decodeTableWord 24 0x470000 = some (.aind 0)

/-! ## The step -/

/-- R44, R70, R80: when the bytes at the command index decode to the command `i`, the step is `exec i` of the state after the
tick agent's turn, with the command index moved past the command's bytes; the tick agent's turn adds TICKs to MS and HIST and
does nothing when the timer is stopped (R100). -/
def Obligations.StepRunsDecodedCommand : Prop :=
  ∀ (s : State) (i : Instr) (rest : List Byte), decode (s.stream.drop s.ci) = .ok (i, rest) →
    (∀ t, exec i s.tickPoint = .next t → step s = .next { t with ci := t.ci + i.length }) ∧
    (∀ r, exec i s.tickPoint = .refused r → step s = .refused r) ∧
    (s.timerRun = false → s.tickPoint = s) ∧
    (s.tmask = false → ∃ k : Nat, s.tickPoint = { s with
      ms := s.ms + BitVec.ofNat 32 k, hist := s.hist ++ List.replicate k .tick, env := s.tickPoint.env })

/-- The model's choice (log 9), after R211 and R232: at the end of the stream the step leaves everything as it is but for the
tick agent's turn. -/
def Obligations.EndOfStreamIdles : Prop :=
  ∀ s : State, s.stream.length ≤ s.ci →
    ∃ t, step s = .next t ∧ t = { s with ms := t.ms, tpend := t.tpend, hist := t.hist, env := t.env } ∧
      quiet t.hist = quiet s.hist ∧ (s.timerRun = false → t = s)

/-! ## Reset -/

/-- R47: every value the table states for reset; where it says "no value", the use before the first write is refused: a NOTE
or GAP for DUTY, SPEED and TRANSPOSE, the host's read for RES. That the elements it leaves unspecified are read by no rule is
`UnreadRegistersDoNotMatter`. -/
def Obligations.ResetValues : Prop :=
  (∀ c : Fin 4, State.reset.active[c] = 0 ∧ State.reset.pending[c] = 0) ∧ State.reset.swp = false ∧
  State.reset.ms = 0 ∧ State.reset.pwmcnt = 0 ∧ State.reset.subcnt = 0 ∧ State.reset.safe = false ∧
  State.reset.timerRun = false ∧ State.reset.adcReady = false ∧
  (∀ p : Pin, State.reset.dirOf p = .input ∧ State.reset.levelOf p = false) ∧ State.reset.owner = .LED ∧
  State.reset.synValid = false ∧ State.reset.hostReadRes = .error .resNotWritten ∧
  (∀ f d : Nat, exec (.note f d) State.reset = .refused .synthNotConfigured) ∧
  exec .gap State.reset = .refused .synthNotConfigured ∧
  State.reset.tmask = false ∧ State.reset.tpend = false ∧ State.reset.hist = [] ∧ State.reset.ci = 0

/-! ## The clock -/

/-- R100, R186, R187: the tick interrupt. Running and unmasked it advances MS modulo 2^32 and records a Tick; masked it is
held in TPEND; with the timer stopped it is not enabled. Nothing else changes. R14, R67, R70, R230 (a): a Delay records its
Wait, and in it, as between two commands, the tick agent takes exactly as many TICKs as it chose to, any natural number; nothing
else changes. The choice `k` is the next count given from outside (log 3). -/
def Obligations.TickInterrupt : Prop :=
  ∀ s : State,
    (s.timerRun = true → s.tmask = false → s.tickDue = { s with ms := s.ms + 1, hist := s.hist ++ [.tick] } ∧
      s.tickDue.ms.toNat = (s.ms.toNat + 1) % 2 ^ 32) ∧
    (s.timerRun = true → s.tmask = true → s.tickDue = { s with tpend := true }) ∧
    (s.timerRun = false → s.tickDue = s ∧ s.tickPoint = s ∧ ∀ us, s.delay us = { s with hist := s.hist ++ [.wait us] }) ∧
    (s.tmask = false → ∀ us, ∃ k : Nat, s.delay us = { s with
      ms := s.ms + BitVec.ofNat 32 k, hist := s.hist ++ .wait us :: List.replicate k .tick, env := (s.delay us).env }) ∧
    (s.timerRun = true → s.tmask = false → ∀ (us k : Nat) (ks : List Nat), s.env.ticks = k :: ks →
      s.tickPoint = { s with
        ms := s.ms + BitVec.ofNat 32 k, hist := s.hist ++ List.replicate k .tick,
        env := { s.env with ticks := ks, tickNo := s.env.tickNo + 1 } } ∧
      s.delay us = { s with
        ms := s.ms + BitVec.ofNat 32 k, hist := s.hist ++ .wait us :: List.replicate k .tick,
        env := { s.env with ticks := ks, tickNo := s.env.tickNo + 1 } })

/-- R102, R186: MILLIS returns all 32 bits of MS as of one instant and leaves the mask down; a tick held in TPEND is taken
after the copy. Everything else is unchanged. -/
def Obligations.MillisReadsClock : Prop :=
  ∀ s : State, exec .millis s = .next
    (if s.tpend && s.timerRun then
      { s with res := s.ms, resValid := true, tmask := false, tpend := false, ms := s.ms + 1,
               hist := s.hist ++ [.result s.ms, .tick] }
    else { s with res := s.ms, resValid := true, tmask := false, tpend := false, hist := s.hist ++ [.result s.ms] })

/-- R104: no command moves MS but by the Tick events it admits, one each modulo 2^32; none with the timer stopped. -/
def Obligations.ClockMovesByTicksOnly : Prop :=
  ∀ (i : Instr) (s t : State), exec i s = .next t →
    (∃ k : Nat, t.ms = s.ms + BitVec.ofNat 32 k ∧ t.hist.count .tick = s.hist.count .tick + k) ∧
    (s.timerRun = false → t.ms = s.ms)

/-- R103: `k` ticks after a read, the modular difference is `k`, across rollover, whenever fewer than 2^32 ticks passed; so the
host's timeout test is exact. -/
def Obligations.ElapsedAcrossRollover : Prop :=
  ∀ (start : Word) (k duration : Nat), k < 2 ^ 32 →
    (elapsed (start + BitVec.ofNat 32 k) start).toNat = k ∧
    (timedOut (start + BitVec.ofNat 32 k) start duration = true ↔ duration ≤ k)

/-! ## PWM, LED driver, shared pin -/

/-- R110: INIT's writes and nothing else. -/
def Obligations.InitEffect : Prop :=
  ∀ s : State, ∃ t, exec .init s = .next t ∧
    (∀ c : Fin 4, t.active[c] = 0 ∧ t.pending[c] = 0 ∧ t.dirOf (.led c) = .output) ∧
    t.dirOf .buzz = s.dirOf .buzz ∧ (t.adcReady = true ↔ s.cfg.micEnable = true ∨ s.adcReady = true) ∧
    t = { s with
      clkFull := true, active := t.active, pending := t.pending, swp := false, dir := t.dir, owner := .LED,
      timerRun := true, adcReady := t.adcReady,
      hist := s.hist ++ [.dir (.led 0) .output, .dir (.led 1) .output, .dir (.led 2) .output, .dir (.led 3) .output] }

/-- R112: UPDATE's counter, boundary and comparison. -/
def Obligations.UpdateCountsSwapsAndDrives : Prop :=
  ∀ s : State, ∃ t, exec .update s = .next t ∧ t.pwmcnt = s.pwmcnt + 1 ∧
    (t.pwmcnt = 0 → t.subcnt = (s.subcnt + 1) % s.cfg.sampleDiv ∧ t.swp = false ∧
      t.active = if s.swp then s.pending else s.active) ∧
    (t.pwmcnt ≠ 0 → t.subcnt = s.subcnt ∧ t.swp = s.swp ∧ t.active = s.active) ∧
    (∀ c : Fin 4, t.levelOf (.led c) = true ↔ t.pwmcnt.toNat < t.active[c].toNat) ∧
    t.hist = s.hist ++ ledEvents (fun c => t.levelOf (.led c)) ++
      (if s.cfg.micEnable then [.dir s.sharedPin (t.dirOf s.sharedPin)] else [])

/-- R113: UPDATE's arbitration of the shared pin. -/
def Obligations.UpdateArbitratesSharedPin : Prop :=
  ∀ s : State, ∃ t, exec .update s = .next t ∧
    (s.cfg.micEnable = true → t.active[s.cfg.sh] ≤ t.pwmcnt →
      t.dirOf s.sharedPin = .input ∧ t.owner = .MIC ∧ t.safe = (if t.subcnt = 0 then true else s.safe)) ∧
    (s.cfg.micEnable = true → t.pwmcnt < t.active[s.cfg.sh] →
      t.dirOf s.sharedPin = .output ∧ t.owner = .LED ∧ t.safe = false) ∧
    (s.cfg.micEnable = false → t.dirOf s.sharedPin = s.dirOf s.sharedPin ∧ t.owner = .LED ∧ t.safe = s.safe) ∧
    (∀ p, p ≠ s.sharedPin → t.dirOf p = s.dirOf p)

/-- R112, R113: UPDATE's frame: PENDING, the clock, the buzzer, the converter, the synthesizer, RES and the host's state are
unchanged. -/
def Obligations.UpdateFrame : Prop :=
  ∀ s : State, ∃ t, exec .update s = .next t ∧ t.levelOf .buzz = s.levelOf .buzz ∧
    t = { s with
      pwmcnt := t.pwmcnt, subcnt := t.subcnt, active := t.active, swp := t.swp, level := t.level, dir := t.dir,
      owner := t.owner, safe := t.safe, hist := t.hist }

/-- R115: in every state left by an UPDATE with MIC_ENABLE the shared pin has one role, and SAFE = 1 means an undriven input. -/
def Obligations.SharedPinExclusiveAfterUpdate : Prop :=
  ∀ s : State, s.cfg.micEnable = true → ∃ t, exec .update s = .next t ∧
    (t.dirOf t.sharedPin = .input → t.levelOf t.sharedPin = false ∧ t.owner = .MIC) ∧
    (t.dirOf t.sharedPin = .output → t.levelOf t.sharedPin = true ∧ t.owner = .LED ∧ t.safe = false) ∧
    (t.safe = true → t.dirOf t.sharedPin = .input ∧ t.drives t.sharedPin = false)

/-- R114: over the 256 UPDATEs of a cycle, the k-th leaves PWMCNT = k and writes channel `c` high exactly when k is below the
channel's brightness `b`: `b` high writes and `256 - b` low ones. With MIC_ENABLE the shared pin is driven high at exactly its
`b` steps and is an undriven input at the other `256 - b`. -/
def Obligations.PwmDutyOverCycle : Prop :=
  ∀ (s : State) (c : Fin 4) (b : Nat), s.pwmcnt = 255 → b = (if s.swp then s.pending[c] else s.active[c]).toNat →
    (∀ k : Nat, k < 256 → ∃ t, updates (k + 1) s = .next t ∧ t.pwmcnt.toNat = k ∧ t.active[c].toNat = b ∧
      (t.levelOf (.led c) = true ↔ k < b) ∧
      (s.cfg.micEnable = true → c = s.cfg.sh →
        (t.drives (.led c) = true ↔ k < b) ∧ (b ≤ k → t.dirOf (.led c) = .input))) ∧
    (∃ t, updates 256 s = .next t ∧
      t.hist.count (.level (.led c) true) = s.hist.count (.level (.led c) true) + b ∧
      t.hist.count (.level (.led c) false) = s.hist.count (.level (.led c) false) + (256 - b))

/-- R117, R73: a LEDSET issued at PWMCNT = k changes no level, no ACTIVE value, no direction and no event of any of the UPDATEs
up to the one that leaves PWMCNT = 255; the UPDATE after that one is the first to use the new value. -/
def Obligations.DoubleBufferAtomic : Prop :=
  ∀ (s : State) (ch br n : Nat), s.pwmcnt.toNat + n ≤ 255 →
    ∃ u v w, exec (.ledset ch br) s = .next u ∧ updates n u = .next v ∧ updates n s = .next w ∧
      v = { w with pending := u.pending, swp := u.swp } ∧ u.level = s.level ∧ u.hist = s.hist ∧ v.active = s.active ∧
      (1 ≤ n → ∀ c : Fin 4, v.levelOf (.led c) = true ↔ v.pwmcnt.toNat < s.active[c].toNat) ∧
      (s.pwmcnt.toNat + n = 255 → ∀ c : Fin 4, c.val = ch →
        ∃ x, exec .update v = .next x ∧ x.pwmcnt = 0 ∧ x.active[c] = BitVec.ofNat 8 br ∧
          (x.levelOf (.led c) = true ↔ 0 < (BitVec.ofNat 8 br).toNat))

/-- R116: LEDSET writes the pending brightness and raises SWP, or is a silent no-op. -/
def Obligations.LedsetRequests : Prop :=
  ∀ (s : State) (ch br : Nat), br ≤ 255 →
    (ch < 4 → ∃ t, exec (.ledset ch br) s = .next t ∧
      (∀ c : Fin 4, t.pending[c].toNat = if c.val = ch then br else s.pending[c].toNat) ∧
      t = { s with pending := t.pending, swp := true }) ∧
    (4 ≤ ch → exec (.ledset ch br) s = .next s)

/-- R118: LEDOFF zeroes both banks and all LED levels at once; flags, counters, directions and owner are unchanged. -/
def Obligations.LedoffBlackout : Prop :=
  ∀ s : State, ∃ t, exec .ledoff s = .next t ∧
    (∀ c : Fin 4, t.active[c] = 0 ∧ t.pending[c] = 0 ∧ t.levelOf (.led c) = false) ∧ t.levelOf .buzz = s.levelOf .buzz ∧
    t = { s with
      active := t.active, pending := t.pending, level := t.level, hist := s.hist ++ ledEvents fun _ => false }

/-- R118, R221: after LEDOFF every following UPDATE writes all four levels 0, whatever was requested before it: a request not
yet swapped is cancelled. -/
def Obligations.LedoffCancelsRequests : Prop :=
  ∀ (s : State) (n : Nat), ∃ t u, exec .ledoff s = .next t ∧ updates n t = .next u ∧
    ∀ c : Fin 4, u.active[c] = 0 ∧ u.levelOf (.led c) = false

/-- R73: of two LEDSETs on one channel the later is the one that counts; on different channels their order does not matter. -/
def Obligations.LastLedsetWins : Prop :=
  ∀ (s : State) (c c' b b' : Nat),
    execAll [.ledset c b, .ledset c b'] s = exec (.ledset c b') s ∧
    (c ≠ c' → execAll [.ledset c b, .ledset c' b'] s = execAll [.ledset c' b', .ledset c b] s)

/-! ## Sampling -/

/-- R130: MICINIT hands the shared pin to the analog input. -/
def Obligations.MicinitEffect : Prop :=
  ∀ s : State, s.cfg.micEnable = true → ∃ t, exec .micinit s = .next t ∧
    t.dirOf s.sharedPin = .input ∧ (∀ p, p ≠ s.sharedPin → t.dirOf p = s.dirOf p) ∧
    quiet t.hist = quiet s.hist ++ [.dir s.sharedPin .input, .wait s.cfg.micSettleUs] ∧
    t.env.samples = s.env.samples ∧ t.env.sampleNo = s.env.sampleNo ∧
    t = { s with
      dir := t.dir, pullSh := false, owner := .MIC, adcReady := true,
      ms := t.ms, tpend := t.tpend, hist := t.hist, env := t.env }

/-- R129: with MIC_ENABLE = false the three microphone commands are refused. -/
def Obligations.MicCommandsNeedMicrophone : Prop :=
  ∀ s : State, s.cfg.micEnable = false →
    exec .micinit s = .refused .micNotBuilt ∧ exec .micread s = .refused .micNotBuilt ∧
    exec .micreadf s = .refused .micNotBuilt

/-- R133 to R135: MICREAD waits its whole timeout exactly when SAFE = 0, consumes SAFE, converts whatever the pin is doing, and
returns the draw, 0..1023; the Sample event records whether the read was safe and the pin's direction. -/
def Obligations.MicreadEffect : Prop :=
  ∀ s : State, s.cfg.micEnable = true → ∃ t, exec .micread s = .next t ∧
    t.res = (s.draw 0).setWidth 32 ∧ t.res.toNat ≤ 1023 ∧ (∀ k, t.draw k = s.draw (k + 1)) ∧
    quiet t.hist = quiet s.hist ++ (if s.safe then [] else [.wait s.cfg.micWaitUs]) ++
      [.wait s.cfg.adcConvUs, .sample (s.draw 0) s.safe (s.dirOf s.sharedPin), .result t.res] ∧
    t = { s with
      safe := false, res := t.res, resValid := true, ms := t.ms, tpend := t.tpend, hist := t.hist, env := t.env }

/-- R137: MICREADF returns the floor of the mean of the next MIC_FILTER_N draws; only the first read can find SAFE = 1. -/
def Obligations.MicreadfMean : Prop :=
  ∀ s : State, s.cfg.micEnable = true → ∃ t, exec .micreadf s = .next t ∧
    t.res.toNat = s.drawSum s.cfg.micFilterN / s.cfg.micFilterN ∧ t.res.toNat ≤ 1023 ∧
    (∀ k, t.draw k = s.draw (k + s.cfg.micFilterN)) ∧
    quiet t.hist = quiet s.hist ++ ((List.range s.cfg.micFilterN).flatMap fun k =>
      (if k = 0 then [] else [.wait s.cfg.micFilterDelayUs]) ++
      (if s.safe ∧ k = 0 then [] else [.wait s.cfg.micWaitUs]) ++
      [.wait s.cfg.adcConvUs, .sample (s.draw k) (s.safe && k == 0) (s.dirOf s.sharedPin)]) ++ [.result t.res] ∧
    t = { s with
      safe := false, res := t.res, resValid := true, ms := t.ms, tpend := t.tpend, hist := t.hist, env := t.env }

/-- R137: "`MIC_FILTER_N = 1` makes MICREADF equal to MICREAD". -/
def Obligations.MicreadfOfOneIsMicread : Prop :=
  ∀ s : State, s.cfg.micFilterN = 1 → exec .micreadf s = exec .micread s

/-- R137: the requested delay of MICREADF: a conversion per sample, N - 1 delays between samples, and a timeout for every
sample but a first one that finds SAFE = 1. -/
def Obligations.MicreadfRequestedDelay : Prop :=
  ∀ s : State, s.cfg.micEnable = true → ∃ t, exec .micreadf s = .next t ∧
    requestedUs t.hist = requestedUs s.hist + s.cfg.micFilterN * s.cfg.adcConvUs +
      (s.cfg.micFilterN - 1) * (s.cfg.micWaitUs + s.cfg.micFilterDelayUs) + (if s.safe then 0 else s.cfg.micWaitUs)

/-- R140, R136: a MICREAD directly after an off-phase UPDATE of a qualifying cycle is safe: no wait, and the conversion is made
while the shared pin is an input. -/
def Obligations.SafeReadAfterUpdate : Prop :=
  ∀ s t : State, s.cfg.micEnable = true → exec .update s = .next t → t.active[s.cfg.sh] ≤ t.pwmcnt → t.subcnt = 0 →
    ∃ u, exec .micread t = .next u ∧
      quiet u.hist = quiet t.hist ++ [.wait s.cfg.adcConvUs, .sample (s.draw 0) true .input, .result u.res]

/-- R136, 90_conflicts.md C2: no command converts with SAFE = 1 on a driven pin while the flag is fresh, and every command but
INIT, NOTE and AIND keeps it fresh. -/
def Obligations.FreshFlagNoUnsafeSample : Prop :=
  ∀ (i : Instr) (s t : State), s.SafeFresh → exec i s = .next t →
    (NoUnsafeSample s.hist → NoUnsafeSample t.hist) ∧
    (i ≠ .init → (∀ f d, i ≠ .note f d) → (∀ f, i ≠ .aind f) → t.SafeFresh)

/-! ## Synthesizer and indicator -/

/-- R145: SYNCFG stores the three operands, each clamped to its range, and nothing else changes. -/
def Obligations.SyncfgClamps : Prop :=
  ∀ (s : State) (duty speed : Nat) (n : Int), ∃ t, exec (.syncfg duty speed n) s = .next t ∧
    t.duty = (if duty < 10 then 10 else if 100 < duty then 100 else duty) ∧
    t.speed = (if speed < 25 then 25 else if 10000 < speed then 10000 else speed) ∧
    t.transpose = (if n < -12 then -12 else if 12 < n then 12 else n) ∧
    t = { s with duty := t.duty, speed := t.speed, transpose := t.transpose, synValid := true }

/-- R146: BUZON makes the buzzer pin an output at low level and touches no other pin. -/
def Obligations.BuzonEffect : Prop :=
  ∀ s : State, ∃ t, exec .buzon s = .next t ∧ t.dirOf .buzz = .output ∧ t.levelOf .buzz = false ∧
    (∀ c : Fin 4, t.dirOf (.led c) = s.dirOf (.led c) ∧ t.levelOf (.led c) = s.levelOf (.led c)) ∧
    t = { s with
      dir := t.dir, level := t.level, hist := s.hist ++ [.dir .buzz .output, .level .buzz false] }

/-- R148: TRANSP's result: a rest is 0; otherwise the entry at the index of the nearest entry (the least index among the
closest), shifted by the clamped semitones and clamped to the table. Only RES and HIST change. -/
def Obligations.TranspResult : Prop :=
  ∀ (s : State) (f : Nat) (n : Int), ∃ t, exec (.transp f n) s = .next t ∧
    (f = 0 → t.res = 0) ∧
    (1 ≤ f → ∃ i j : Nat, i < s.cfg.nt ∧ j < s.cfg.nt ∧
      (∀ k, k < s.cfg.nt → absdiff (tableRead s.cfg i) f ≤ absdiff (tableRead s.cfg k) f) ∧
      (∀ k, k < i → absdiff (tableRead s.cfg i) f < absdiff (tableRead s.cfg k) f) ∧
      (j : Int) = max 0 (min ((i : Int) + (if n < -12 then -12 else if 12 < n then 12 else n)) ((s.cfg.nt : Int) - 1)) ∧
      t.res.toNat = tableRead s.cfg j) ∧
    t = { s with res := t.res, resValid := true, hist := s.hist ++ [.result t.res] }

/-- R149 (a): `Transpose(CHROMA[i], 0) = CHROMA[i]` for every entry of any admissible table. -/
def Obligations.TransposeKeepsEntries : Prop :=
  ∀ (c : Config) (i : Nat), i < c.nt → transposeFreq c (tableRead c i) 0 = tableRead c i

/-- R149 (b), 90_conflicts.md C1: +12 then -12 returns to the entry exactly when no clamp interferes (or at the first entry),
and otherwise gives entry max(NT - 13, 0); symmetrically for -12 then +12. -/
def Obligations.TransposeRoundTrip : Prop :=
  ∀ (c : Config) (i : Nat), i < c.nt →
    (transposeFreq c (transposeFreq c (tableRead c i) 12) (-12) = tableRead c i ↔ i + 12 ≤ c.nt - 1 ∨ i = 0) ∧
    (c.nt - 1 < i + 12 → transposeFreq c (transposeFreq c (tableRead c i) 12) (-12) = tableRead c (c.nt - 13)) ∧
    (transposeFreq c (transposeFreq c (tableRead c i) (-12)) 12 = tableRead c i ↔ 12 ≤ i ∨ i = c.nt - 1)

/-- R149 (c): `Transpose` is monotone in `f` (from 1 on) and in `n`. -/
def Obligations.TransposeMonotone : Prop :=
  ∀ (c : Config) (f g : Nat) (m n : Int), 1 ≤ f → f ≤ g → m ≤ n → transposeFreq c f m ≤ transposeFreq c g n

/-- R150: TONE: a rest is one delay of `d` milliseconds; otherwise `f * d / 1000` cycles, high first, with the period
`1000000 / f` split by the clamped duty; the wave ends low; DIR and the LED pins are not touched. -/
def Obligations.ToneEffect : Prop :=
  ∀ (s : State) (f d duty : Nat), ∃ t, exec (.tone f d duty) s = .next t ∧
    (f = 0 → quiet t.hist = quiet s.hist ++ [.wait (d * 1000)] ∧ t.levelOf .buzz = s.levelOf .buzz) ∧
    (1 ≤ f → ∀ high, high = 1000000 / f * (if duty < 10 then 10 else if 100 < duty then 100 else duty) / 100 →
      quiet t.hist = quiet s.hist ++ waveEvents high (1000000 / f - high) (f * d / 1000) ∧
      (1 ≤ f * d / 1000 → t.levelOf .buzz = false) ∧ (f * d / 1000 = 0 → t = s)) ∧
    (∀ c : Fin 4, t.levelOf (.led c) = s.levelOf (.led c)) ∧
    t.env.samples = s.env.samples ∧ t.env.sampleNo = s.env.sampleNo ∧
    t = { s with level := t.level, ms := t.ms, tpend := t.tpend, hist := t.hist, env := t.env }

/-- R150 corner cases (3), (5), (9): the integers of the wave for every operand of a TONE: the parts add up to the period, the
requested time is `d` milliseconds or short of it by less than `period + cycles + 1` us, and every intermediate is below 2^32. -/
def Obligations.ToneArithmetic : Prop :=
  ∀ f d duty : Nat, 1 ≤ f → f ≤ 65535 → d ≤ 65535 → 10 ≤ duty → duty ≤ 100 →
    1 ≤ toneHigh f duty ∧ toneHigh f duty + toneLow f duty = tonePeriod f ∧
    toneCycles f d * tonePeriod f ≤ d * 1000 ∧
    d * 1000 < toneCycles f d * tonePeriod f + tonePeriod f + toneCycles f d + 1 ∧
    f * d < 2 ^ 32 ∧ tonePeriod f * duty < 2 ^ 32 ∧ d * 1000 < 2 ^ 32

/-- R153: NOTE shows the indicator for the original frequency and plays the transposed one for the scaled duration; a rest
or a wave of no cycle leaves the buzzer's level as it was, a longer wave leaves it low. NOTE is refused
without a configuration and outside its admitted domain. -/
def Obligations.NoteEffect : Prop :=
  ∀ (s : State) (f d : Nat),
    (s.synValid = true → d * 100 / s.speed ≤ 65535 → ∃ t, exec (.note f d) s = .next t ∧
      (∀ c : Fin 4, t.levelOf (.led c) = indicatorLit s.cfg f c) ∧ t.dirOf s.sharedPin = .output ∧
      (∀ p, p ≠ s.sharedPin → t.dirOf p = s.dirOf p) ∧
      (transposeFreq s.cfg f s.transpose = 0 ∨ toneCycles (transposeFreq s.cfg f s.transpose) (d * 100 / s.speed) = 0 →
        t.levelOf .buzz = s.levelOf .buzz) ∧
      (1 ≤ toneCycles (transposeFreq s.cfg f s.transpose) (d * 100 / s.speed) → t.levelOf .buzz = false) ∧
      quiet t.hist = quiet s.hist ++ .dir s.sharedPin .output :: ledEvents (indicatorLit s.cfg f) ++
        (if transposeFreq s.cfg f s.transpose = 0 then [.wait (d * 100 / s.speed * 1000)]
         else waveEvents (toneHigh (transposeFreq s.cfg f s.transpose) s.duty)
          (toneLow (transposeFreq s.cfg f s.transpose) s.duty)
          (toneCycles (transposeFreq s.cfg f s.transpose) (d * 100 / s.speed))) ∧
      t.env.samples = s.env.samples ∧ t.env.sampleNo = s.env.sampleNo ∧
      t = { s with
        dir := t.dir, owner := .AIND, level := t.level, ms := t.ms, tpend := t.tpend, hist := t.hist, env := t.env }) ∧
    (s.synValid = true → 65535 < d * 100 / s.speed → exec (.note f d) s = .refused .noteOutOfDomain) ∧
    (s.synValid = false → exec (.note f d) s = .refused .synthNotConfigured)

/-- R156: GAP turns the indicator off and rests for the tempo-scaled gap; refused without a configuration. -/
def Obligations.GapEffect : Prop :=
  ∀ s : State,
    (s.synValid = true → ∃ t, exec .gap s = .next t ∧
      (∀ c : Fin 4, t.levelOf (.led c) = false) ∧ t.levelOf .buzz = s.levelOf .buzz ∧
      quiet t.hist = quiet s.hist ++ ledEvents (fun _ => false) ++ [.wait (5000 / s.speed * 1000)] ∧
      t.env.samples = s.env.samples ∧ t.env.sampleNo = s.env.sampleNo ∧
      t = { s with level := t.level, ms := t.ms, tpend := t.tpend, hist := t.hist, env := t.env }) ∧
    (s.synValid = false → exec .gap s = .refused .synthNotConfigured)

/-- R158: AIND claims the shared pin and lights the one channel of the frequency's band, or none for 0. -/
def Obligations.AindEffect : Prop :=
  ∀ (s : State) (f : Nat), ∃ t, exec (.aind f) s = .next t ∧
    t.dirOf s.sharedPin = .output ∧ (∀ p, p ≠ s.sharedPin → t.dirOf p = s.dirOf p) ∧
    (f = 0 → ∀ c : Fin 4, t.levelOf (.led c) = false) ∧
    (1 ≤ f → ∃ k : Fin 4,
      (f < s.cfg.bandT1 → k = 0) ∧ (s.cfg.bandT1 ≤ f → f < s.cfg.bandT2 → k = 1) ∧
      (s.cfg.bandT2 ≤ f → f < s.cfg.bandT3 → k = 2) ∧ (s.cfg.bandT3 ≤ f → k = 3) ∧
      ∀ c : Fin 4, t.levelOf (.led c) = true ↔ c = s.cfg.indCh[k]) ∧
    t.levelOf .buzz = s.levelOf .buzz ∧
    t = { s with
      dir := t.dir, owner := .AIND, level := t.level,
      hist := s.hist ++ .dir s.sharedPin .output :: ledEvents fun c => t.levelOf (.led c) }

/-- R160: AINDOFF writes the four LED levels 0 and nothing else. -/
def Obligations.AindoffEffect : Prop :=
  ∀ s : State, ∃ t, exec .aindoff s = .next t ∧ (∀ c : Fin 4, t.levelOf (.led c) = false) ∧
    t.levelOf .buzz = s.levelOf .buzz ∧ t = { s with level := t.level, hist := s.hist ++ ledEvents fun _ => false }

/-- R163: MELEND turns the indicator off and, with MIC_ENABLE, hands the shared pin back and asks for a recalibration. -/
def Obligations.MelendEffect : Prop :=
  ∀ s : State, ∃ t, exec .melend s = .next t ∧ (∀ c : Fin 4, t.levelOf (.led c) = false) ∧
    t.levelOf .buzz = s.levelOf .buzz ∧
    (s.cfg.micEnable = true →
      t.dirOf s.sharedPin = .input ∧ (∀ p, p ≠ s.sharedPin → t.dirOf p = s.dirOf p) ∧
      quiet t.hist = quiet s.hist ++ ledEvents (fun _ => false) ++
        [.dir s.sharedPin .input, .wait s.cfg.micSettleUs, .recal] ∧
      t.env.samples = s.env.samples ∧ t.env.sampleNo = s.env.sampleNo ∧
      t = { s with
        level := t.level, dir := t.dir, pullSh := false, owner := .MIC, adcReady := true,
        ms := t.ms, tpend := t.tpend, hist := t.hist, env := t.env }) ∧
    (s.cfg.micEnable = false → t = { s with level := t.level, hist := s.hist ++ ledEvents fun _ => false })

/-- R92: a melody of k >= 1 notes expands to 2k + 2 commands and 6k + 6 bytes; an empty one to nothing. -/
def Obligations.MelodyExpansionSize : Prop :=
  ∀ (duty speed : Nat) (n : Int) (notes : List (Nat × Nat)),
    (notes = [] → melody duty speed n notes = []) ∧
    (notes ≠ [] → (melody duty speed n notes).length = 2 * notes.length + 2 ∧
      (encodeAll (melody duty speed n notes)).length = 6 * notes.length + 6)

/-- R166: the source's two-note scenario, from any state of any configuration whose table holds 440: 220 cycles of 1817 us high
and 455 us low, a 50 ms gap, a 500 ms rest, no gap after the last note. -/
def Obligations.MelodyScenario : Prop :=
  ∀ s : State, 440 ∈ s.cfg.chroma → ∃ t, execAll (melody 80 100 0 [(440, 500), (0, 500)]) s = .next t ∧
    quiet t.hist = quiet s.hist ++ [.dir .buzz .output, .level .buzz false] ++
      (.dir s.sharedPin .output :: ledEvents (indicatorLit s.cfg 440)) ++ waveEvents 1817 455 220 ++
      ledEvents (fun _ => false) ++ [.wait 50000] ++
      (.dir s.sharedPin .output :: ledEvents (fun _ => false)) ++ [.wait 500000] ++ ledEvents (fun _ => false) ++
      (if s.cfg.micEnable then [.dir s.sharedPin .input, .wait s.cfg.micSettleUs, .recal] else [])

/-! ## The whole machine -/

/-- R20 to R38: every register is written only by the commands its rule names. -/
def Obligations.WritersOfRegisters : Prop :=
  ∀ (i : Instr) (s t : State), exec i s = .next t →
    (i.mnemonic ∉ [.UPDATE, .LEDOFF, .INIT] → t.active = s.active) ∧
    (i.mnemonic ∉ [.LEDSET, .LEDOFF, .INIT] → t.pending = s.pending) ∧
    (i.mnemonic ≠ .UPDATE → t.pwmcnt = s.pwmcnt ∧ t.subcnt = s.subcnt) ∧
    (i.mnemonic ≠ .INIT → t.timerRun = s.timerRun ∧ t.clkFull = s.clkFull) ∧
    (i.mnemonic ∉ [.INIT, .MICINIT, .MELEND] → t.adcReady = s.adcReady) ∧
    (i.mnemonic ∉ [.MICINIT, .MELEND] → t.pullSh = s.pullSh) ∧
    (i.mnemonic ∉ [.LEDSET, .UPDATE, .INIT] → t.swp = s.swp) ∧
    (i.mnemonic ∉ [.UPDATE, .MICREAD, .MICREADF] → t.safe = s.safe) ∧
    (i.mnemonic ∉ [.UPDATE, .INIT, .MICINIT, .MELEND, .AIND, .NOTE] → t.owner = s.owner) ∧
    (i.mnemonic ≠ .SYNCFG →
      t.duty = s.duty ∧ t.speed = s.speed ∧ t.transpose = s.transpose ∧ t.synValid = s.synValid) ∧
    (i.mnemonic ∉ [.MILLIS, .MICREAD, .MICREADF, .TRANSP] → t.res = s.res ∧ t.resValid = s.resValid) ∧
    (i.mnemonic ≠ .BUZON → t.dirOf .buzz = s.dirOf .buzz) ∧
    (i.mnemonic ∉ [.BUZON, .TONE, .NOTE] → t.levelOf .buzz = s.levelOf .buzz) ∧
    (i.mnemonic ∉ [.INIT, .UPDATE, .MICINIT, .AIND, .NOTE, .MELEND] → ∀ c, t.dirOf (.led c) = s.dirOf (.led c)) ∧
    (i.mnemonic ∉ [.UPDATE, .LEDOFF, .AIND, .AINDOFF, .NOTE, .GAP, .MELEND] →
      ∀ c, t.levelOf (.led c) = s.levelOf (.led c))

/-- R22, 90_conflicts.md C5: ACTIVE changes only at a cycle-boundary UPDATE, by the one-way copy of PENDING, or by LEDOFF or
INIT, which zero it. -/
def Obligations.ActiveChangesOnlyAtBoundary : Prop :=
  ∀ (i : Instr) (s t : State), exec i s = .next t → t.active ≠ s.active →
    (i = .update ∧ s.pwmcnt = 255 ∧ s.swp = true ∧ t.active = s.pending ∧ t.pending = s.pending) ∨
    ((i = .ledoff ∨ i = .init) ∧ ∀ c : Fin 4, t.active[c] = 0 ∧ t.pending[c] = 0)

/-- R26 to R28, R37, R146: nothing stops the timer, restores a prescaler, unconfigures the converter or the synthesizer, or
returns BUZZ to input. -/
def Obligations.OneWayBits : Prop :=
  ∀ s t : State, step s = .next t →
    (s.timerRun = true → t.timerRun = true) ∧ (s.clkFull = true → t.clkFull = true) ∧
    (s.adcReady = true → t.adcReady = true) ∧ (s.synValid = true → t.synValid = true) ∧
    (s.resValid = true → t.resValid = true) ∧ (s.dirOf .buzz = .output → t.dirOf .buzz = .output)

/-- R46, R64, R45: a step appends to HIST and never rewrites it, never writes the command stream or the parameters, and moves
the command index only forward. -/
def Obligations.HistoryOnlyGrows : Prop :=
  ∀ s t : State, step s = .next t →
    (∃ evs, t.hist = s.hist ++ evs) ∧ t.stream = s.stream ∧ t.cfg = s.cfg ∧ s.ci ≤ t.ci ∧ t.ci ≤ s.ci + 6

/-- R183: exactly the listed cases are refused and every other command completes, on every state and operand. -/
def Obligations.RefusalsExactlyListed : Prop :=
  ∀ (i : Instr) (s : State),
    (∃ t, exec i s = .next t ∧
      ¬ (s.synValid = false ∧ (i.mnemonic = .NOTE ∨ i.mnemonic = .GAP)) ∧
      ¬ (s.cfg.micEnable = false ∧ (i = .micinit ∨ i = .micread ∨ i = .micreadf)) ∧
      ∀ f d, i = .note f d → d * 100 / s.speed ≤ 65535) ∨
    (exec i s = .refused .synthNotConfigured ∧ s.synValid = false ∧ (i.mnemonic = .NOTE ∨ i.mnemonic = .GAP)) ∨
    (exec i s = .refused .micNotBuilt ∧ s.cfg.micEnable = false ∧ (i = .micinit ∨ i = .micread ∨ i = .micreadf)) ∨
    (exec i s = .refused .noteOutOfDomain ∧ s.synValid = true ∧ ∃ f d, i = .note f d ∧ 65535 < d * 100 / s.speed)

/-- R38, R88: after a result-bearing command the host reads the value it returned; before any, the read is refused; other
commands leave what the host reads unchanged. -/
def Obligations.HostReadsLastResult : Prop :=
  ∀ (i : Instr) (s t : State), exec i s = .next t →
    (i.mnemonic ∈ [.MILLIS, .MICREAD, .MICREADF, .TRANSP] →
      t.hostReadRes = .ok t.res ∧ ∃ evs, (.result t.res) ∈ evs ∧ t.hist = s.hist ++ evs) ∧
    (i.mnemonic ∉ [.MILLIS, .MICREAD, .MICREADF, .TRANSP] → t.hostReadRes = s.hostReadRes) ∧
    (s.resValid = false → s.hostReadRes = .error .resNotWritten)

/-- The invariant holds at reset: R47's values. It rests on no value of the model's own choice. -/
def Obligations.InvariantAtReset : Prop := State.reset.Inv

/-- R25, R36, R37, R39, R44, R100, R113: every step keeps the invariant `State.Inv`. -/
def Obligations.StepKeepsInvariant : Prop :=
  ∀ s t : State, s.Inv → step s = .next t → t.Inv

/-- R46, R47: the empty history at reset tells reset's pins, clock and result. -/
def Obligations.FaithfulAtReset : Prop := State.reset.Faithful

/-- R14, R46, R104: every step keeps the history faithful: MS counts the Tick events modulo 2^32, every level and direction is
the last one recorded, RES is the last result recorded. -/
def Obligations.StepKeepsHistoryFaithful : Prop :=
  ∀ s t : State, s.Faithful → step s = .next t → t.Faithful

/-- R101, R230 (c), 92 D25: in every infinite run of the unmasked machine (`StepKeepsInvariant`: the mask is down between two
steps) the tick agent is weakly fair; so once the timer runs, the Tick events exceed every number. -/
def Obligations.TickAgentWeaklyFair : Prop :=
  ∀ σ : Nat → State, IsRun σ → (σ 0).tmask = false →
    WeaklyFair σ ∧ ∀ n, (σ n).timerRun = true → ∀ k, ∃ m, n ≤ m ∧ k ≤ (σ m).hist.count .tick

/-- R47, R27, R29, R37, R38: what a register holds that R47 leaves "unspecified" or without a value is read by no rule: states
that differ in such registers only step alike, to states that again differ in such registers only, and the host reads the same.
So the reset values that the model chose for them (log 5, 6, 7) show in no history. -/
def Obligations.UnreadRegistersDoNotMatter : Prop :=
  ∀ s s' : State, s.AgreeOnRead s' →
    s'.hist = s.hist ∧ s'.hostReadRes = s.hostReadRes ∧
    (∀ t, step s = .next t → ∃ t', step s' = .next t' ∧ t.AgreeOnRead t') ∧
    (∀ r, step s = .refused r → step s' = .refused r)
end

