-- ==== Sys2Proof/Laws/Codec.lean ====
section
/-! SUPPORT. The operand bytes of spec/30_encoding.md R82 there and back, and the opcode byte of each row of R84. -/

namespace Sys2Proof

/-- R84: the rows' opcode bytes are distinct, so the byte gives back its row. -/
@[simp] theorem ofOpcode_opcode (m : Mnemonic) : Mnemonic.ofOpcode m.opcode = some m := by cases m <;> decide

/-- R84, R85: a byte is some row's opcode or reserved. -/
theorem ofOpcode_some {b : Byte} {m : Mnemonic} (h : Mnemonic.ofOpcode b = some m) : m.opcode = b := by
  have := List.find?_some h
  simpa using this

@[simp] theorem toNat_loByte_of_byte {v : Nat} (h : v ≤ 255) : (loByte v).toNat = v := by
  simp [loByte]; omega

@[simp] theorem half_lo_hi {v : Nat} (h : v ≤ 65535) : half (loByte v) (hiByte v) = v := by
  simp [half, loByte, hiByte]; omega

@[simp] theorem loByte_toNat (b : Byte) : loByte b.toNat = b := by simp [loByte]

@[simp] theorem loByte_half (lo hi : Byte) : loByte (half lo hi) = lo := by
  apply BitVec.eq_of_toNat_eq
  have := lo.isLt
  simp [loByte, half]
  omega

@[simp] theorem hiByte_half (lo hi : Byte) : hiByte (half lo hi) = hi := by
  apply BitVec.eq_of_toNat_eq
  have := lo.isLt
  have := hi.isLt
  simp [hiByte, half]
  omega

theorem half_le (lo hi : Byte) : half lo hi ≤ 65535 := by
  have := lo.isLt
  have := hi.isLt
  simp only [half]; omega

theorem signed8_range (b : Byte) : -128 ≤ signed8 b ∧ signed8 b ≤ 127 := by
  have := b.isLt
  unfold signed8; split <;> omega

theorem signed8_eq_toInt (b : Byte) : signed8 b = b.toInt := by
  have := b.isLt
  rw [BitVec.toInt_eq_toNat_cond]
  unfold signed8
  split <;> split <;> omega

@[simp] theorem signed8_ofInt {n : Int} (h : -128 ≤ n) (h' : n ≤ 127) : signed8 (BitVec.ofInt 8 n) = n := by
  rw [signed8_eq_toInt, BitVec.toInt_ofInt]
  simp [Int.bmod]
  omega

@[simp] theorem ofInt_signed8 (b : Byte) : BitVec.ofInt 8 (signed8 b) = b := by
  rw [signed8_eq_toInt, BitVec.ofInt_toInt]

/-- R82: the operand bytes that decode to a command are that command's operand bytes. -/
theorem decodeOperands_spec {m bs i rest} (h : decodeOperands m bs = some (i, rest)) :
    i.mnemonic = m ∧ i.wellFormed = true ∧ bs = encodeOperands i ++ rest := by
  have hb : ∀ b : Byte, b.toNat ≤ 255 := fun b => by have := b.isLt; omega
  unfold decodeOperands at h
  split at h <;> simp at h <;> obtain ⟨rfl, rfl⟩ := h <;>
    simp [Instr.mnemonic, Instr.wellFormed, encodeOperands, fitsByte, fitsHalf, fitsSigned, hb, half_le, signed8_range]

end Sys2Proof
end

