-- ==== Sys2Proof/Laws/State.lean ====
section
/-! SUPPORT. One lemma per field per plain update of the state: what the field is after the update. All by rfl, all simp. -/

namespace Sys2Proof.Machine

variable (s : State)

/-! `State.emit` -/

@[simp] theorem emit_active (e : Event) : (s.emit e).active = s.active := rfl
@[simp] theorem emit_pending (e : Event) : (s.emit e).pending = s.pending := rfl
@[simp] theorem emit_ms (e : Event) : (s.emit e).ms = s.ms := rfl
@[simp] theorem emit_pwmcnt (e : Event) : (s.emit e).pwmcnt = s.pwmcnt := rfl
@[simp] theorem emit_subcnt (e : Event) : (s.emit e).subcnt = s.subcnt := rfl
@[simp] theorem emit_timerRun (e : Event) : (s.emit e).timerRun = s.timerRun := rfl
@[simp] theorem emit_clkFull (e : Event) : (s.emit e).clkFull = s.clkFull := rfl
@[simp] theorem emit_adcReady (e : Event) : (s.emit e).adcReady = s.adcReady := rfl
@[simp] theorem emit_pullSh (e : Event) : (s.emit e).pullSh = s.pullSh := rfl
@[simp] theorem emit_swp (e : Event) : (s.emit e).swp = s.swp := rfl
@[simp] theorem emit_safe (e : Event) : (s.emit e).safe = s.safe := rfl
@[simp] theorem emit_dir (e : Event) : (s.emit e).dir = s.dir := rfl
@[simp] theorem emit_level (e : Event) : (s.emit e).level = s.level := rfl
@[simp] theorem emit_owner (e : Event) : (s.emit e).owner = s.owner := rfl
@[simp] theorem emit_duty (e : Event) : (s.emit e).duty = s.duty := rfl
@[simp] theorem emit_speed (e : Event) : (s.emit e).speed = s.speed := rfl
@[simp] theorem emit_transpose (e : Event) : (s.emit e).transpose = s.transpose := rfl
@[simp] theorem emit_synValid (e : Event) : (s.emit e).synValid = s.synValid := rfl
@[simp] theorem emit_res (e : Event) : (s.emit e).res = s.res := rfl
@[simp] theorem emit_resValid (e : Event) : (s.emit e).resValid = s.resValid := rfl
@[simp] theorem emit_tmask (e : Event) : (s.emit e).tmask = s.tmask := rfl
@[simp] theorem emit_tpend (e : Event) : (s.emit e).tpend = s.tpend := rfl
@[simp] theorem emit_hist (e : Event) : (s.emit e).hist = s.hist ++ [e] := rfl
@[simp] theorem emit_stream (e : Event) : (s.emit e).stream = s.stream := rfl
@[simp] theorem emit_ci (e : Event) : (s.emit e).ci = s.ci := rfl
@[simp] theorem emit_cfg (e : Event) : (s.emit e).cfg = s.cfg := rfl
@[simp] theorem emit_env (e : Event) : (s.emit e).env = s.env := rfl

/-! `State.setLevel` -/

@[simp] theorem setLevel_active (p : Pin) (v : Bool) : (s.setLevel p v).active = s.active := rfl
@[simp] theorem setLevel_pending (p : Pin) (v : Bool) : (s.setLevel p v).pending = s.pending := rfl
@[simp] theorem setLevel_ms (p : Pin) (v : Bool) : (s.setLevel p v).ms = s.ms := rfl
@[simp] theorem setLevel_pwmcnt (p : Pin) (v : Bool) : (s.setLevel p v).pwmcnt = s.pwmcnt := rfl
@[simp] theorem setLevel_subcnt (p : Pin) (v : Bool) : (s.setLevel p v).subcnt = s.subcnt := rfl
@[simp] theorem setLevel_timerRun (p : Pin) (v : Bool) : (s.setLevel p v).timerRun = s.timerRun := rfl
@[simp] theorem setLevel_clkFull (p : Pin) (v : Bool) : (s.setLevel p v).clkFull = s.clkFull := rfl
@[simp] theorem setLevel_adcReady (p : Pin) (v : Bool) : (s.setLevel p v).adcReady = s.adcReady := rfl
@[simp] theorem setLevel_pullSh (p : Pin) (v : Bool) : (s.setLevel p v).pullSh = s.pullSh := rfl
@[simp] theorem setLevel_swp (p : Pin) (v : Bool) : (s.setLevel p v).swp = s.swp := rfl
@[simp] theorem setLevel_safe (p : Pin) (v : Bool) : (s.setLevel p v).safe = s.safe := rfl
@[simp] theorem setLevel_dir (p : Pin) (v : Bool) : (s.setLevel p v).dir = s.dir := rfl
@[simp] theorem setLevel_level (p : Pin) (v : Bool) : (s.setLevel p v).level = s.level.set p.index v := rfl
@[simp] theorem setLevel_owner (p : Pin) (v : Bool) : (s.setLevel p v).owner = s.owner := rfl
@[simp] theorem setLevel_duty (p : Pin) (v : Bool) : (s.setLevel p v).duty = s.duty := rfl
@[simp] theorem setLevel_speed (p : Pin) (v : Bool) : (s.setLevel p v).speed = s.speed := rfl
@[simp] theorem setLevel_transpose (p : Pin) (v : Bool) : (s.setLevel p v).transpose = s.transpose := rfl
@[simp] theorem setLevel_synValid (p : Pin) (v : Bool) : (s.setLevel p v).synValid = s.synValid := rfl
@[simp] theorem setLevel_res (p : Pin) (v : Bool) : (s.setLevel p v).res = s.res := rfl
@[simp] theorem setLevel_resValid (p : Pin) (v : Bool) : (s.setLevel p v).resValid = s.resValid := rfl
@[simp] theorem setLevel_tmask (p : Pin) (v : Bool) : (s.setLevel p v).tmask = s.tmask := rfl
@[simp] theorem setLevel_tpend (p : Pin) (v : Bool) : (s.setLevel p v).tpend = s.tpend := rfl
@[simp] theorem setLevel_hist (p : Pin) (v : Bool) : (s.setLevel p v).hist = s.hist ++ [.level p v] := rfl
@[simp] theorem setLevel_stream (p : Pin) (v : Bool) : (s.setLevel p v).stream = s.stream := rfl
@[simp] theorem setLevel_ci (p : Pin) (v : Bool) : (s.setLevel p v).ci = s.ci := rfl
@[simp] theorem setLevel_cfg (p : Pin) (v : Bool) : (s.setLevel p v).cfg = s.cfg := rfl
@[simp] theorem setLevel_env (p : Pin) (v : Bool) : (s.setLevel p v).env = s.env := rfl

/-! `State.setDir` -/

@[simp] theorem setDir_active (p : Pin) (d : Dir) : (s.setDir p d).active = s.active := rfl
@[simp] theorem setDir_pending (p : Pin) (d : Dir) : (s.setDir p d).pending = s.pending := rfl
@[simp] theorem setDir_ms (p : Pin) (d : Dir) : (s.setDir p d).ms = s.ms := rfl
@[simp] theorem setDir_pwmcnt (p : Pin) (d : Dir) : (s.setDir p d).pwmcnt = s.pwmcnt := rfl
@[simp] theorem setDir_subcnt (p : Pin) (d : Dir) : (s.setDir p d).subcnt = s.subcnt := rfl
@[simp] theorem setDir_timerRun (p : Pin) (d : Dir) : (s.setDir p d).timerRun = s.timerRun := rfl
@[simp] theorem setDir_clkFull (p : Pin) (d : Dir) : (s.setDir p d).clkFull = s.clkFull := rfl
@[simp] theorem setDir_adcReady (p : Pin) (d : Dir) : (s.setDir p d).adcReady = s.adcReady := rfl
@[simp] theorem setDir_pullSh (p : Pin) (d : Dir) : (s.setDir p d).pullSh = s.pullSh := rfl
@[simp] theorem setDir_swp (p : Pin) (d : Dir) : (s.setDir p d).swp = s.swp := rfl
@[simp] theorem setDir_safe (p : Pin) (d : Dir) : (s.setDir p d).safe = s.safe := rfl
@[simp] theorem setDir_dir (p : Pin) (d : Dir) : (s.setDir p d).dir = s.dir.set p.index d := rfl
@[simp] theorem setDir_level (p : Pin) (d : Dir) : (s.setDir p d).level = s.level := rfl
@[simp] theorem setDir_owner (p : Pin) (d : Dir) : (s.setDir p d).owner = s.owner := rfl
@[simp] theorem setDir_duty (p : Pin) (d : Dir) : (s.setDir p d).duty = s.duty := rfl
@[simp] theorem setDir_speed (p : Pin) (d : Dir) : (s.setDir p d).speed = s.speed := rfl
@[simp] theorem setDir_transpose (p : Pin) (d : Dir) : (s.setDir p d).transpose = s.transpose := rfl
@[simp] theorem setDir_synValid (p : Pin) (d : Dir) : (s.setDir p d).synValid = s.synValid := rfl
@[simp] theorem setDir_res (p : Pin) (d : Dir) : (s.setDir p d).res = s.res := rfl
@[simp] theorem setDir_resValid (p : Pin) (d : Dir) : (s.setDir p d).resValid = s.resValid := rfl
@[simp] theorem setDir_tmask (p : Pin) (d : Dir) : (s.setDir p d).tmask = s.tmask := rfl
@[simp] theorem setDir_tpend (p : Pin) (d : Dir) : (s.setDir p d).tpend = s.tpend := rfl
@[simp] theorem setDir_hist (p : Pin) (d : Dir) : (s.setDir p d).hist = s.hist ++ [.dir p d] := rfl
@[simp] theorem setDir_stream (p : Pin) (d : Dir) : (s.setDir p d).stream = s.stream := rfl
@[simp] theorem setDir_ci (p : Pin) (d : Dir) : (s.setDir p d).ci = s.ci := rfl
@[simp] theorem setDir_cfg (p : Pin) (d : Dir) : (s.setDir p d).cfg = s.cfg := rfl
@[simp] theorem setDir_env (p : Pin) (d : Dir) : (s.setDir p d).env = s.env := rfl

/-! `State.tick` -/

@[simp] theorem tick_active : (s.tick).active = s.active := rfl
@[simp] theorem tick_pending : (s.tick).pending = s.pending := rfl
@[simp] theorem tick_ms : (s.tick).ms = s.ms + 1 := rfl
@[simp] theorem tick_pwmcnt : (s.tick).pwmcnt = s.pwmcnt := rfl
@[simp] theorem tick_subcnt : (s.tick).subcnt = s.subcnt := rfl
@[simp] theorem tick_timerRun : (s.tick).timerRun = s.timerRun := rfl
@[simp] theorem tick_clkFull : (s.tick).clkFull = s.clkFull := rfl
@[simp] theorem tick_adcReady : (s.tick).adcReady = s.adcReady := rfl
@[simp] theorem tick_pullSh : (s.tick).pullSh = s.pullSh := rfl
@[simp] theorem tick_swp : (s.tick).swp = s.swp := rfl
@[simp] theorem tick_safe : (s.tick).safe = s.safe := rfl
@[simp] theorem tick_dir : (s.tick).dir = s.dir := rfl
@[simp] theorem tick_level : (s.tick).level = s.level := rfl
@[simp] theorem tick_owner : (s.tick).owner = s.owner := rfl
@[simp] theorem tick_duty : (s.tick).duty = s.duty := rfl
@[simp] theorem tick_speed : (s.tick).speed = s.speed := rfl
@[simp] theorem tick_transpose : (s.tick).transpose = s.transpose := rfl
@[simp] theorem tick_synValid : (s.tick).synValid = s.synValid := rfl
@[simp] theorem tick_res : (s.tick).res = s.res := rfl
@[simp] theorem tick_resValid : (s.tick).resValid = s.resValid := rfl
@[simp] theorem tick_tmask : (s.tick).tmask = s.tmask := rfl
@[simp] theorem tick_tpend : (s.tick).tpend = s.tpend := rfl
@[simp] theorem tick_hist : (s.tick).hist = s.hist ++ [.tick] := rfl
@[simp] theorem tick_stream : (s.tick).stream = s.stream := rfl
@[simp] theorem tick_ci : (s.tick).ci = s.ci := rfl
@[simp] theorem tick_cfg : (s.tick).cfg = s.cfg := rfl
@[simp] theorem tick_env : (s.tick).env = s.env := rfl

/-! `State.takeTicks` -/

@[simp] theorem takeTicks_active : (s.takeTicks).active = s.active := rfl
@[simp] theorem takeTicks_pending : (s.takeTicks).pending = s.pending := rfl
@[simp] theorem takeTicks_ms : (s.takeTicks).ms = s.ms := rfl
@[simp] theorem takeTicks_pwmcnt : (s.takeTicks).pwmcnt = s.pwmcnt := rfl
@[simp] theorem takeTicks_subcnt : (s.takeTicks).subcnt = s.subcnt := rfl
@[simp] theorem takeTicks_timerRun : (s.takeTicks).timerRun = s.timerRun := rfl
@[simp] theorem takeTicks_clkFull : (s.takeTicks).clkFull = s.clkFull := rfl
@[simp] theorem takeTicks_adcReady : (s.takeTicks).adcReady = s.adcReady := rfl
@[simp] theorem takeTicks_pullSh : (s.takeTicks).pullSh = s.pullSh := rfl
@[simp] theorem takeTicks_swp : (s.takeTicks).swp = s.swp := rfl
@[simp] theorem takeTicks_safe : (s.takeTicks).safe = s.safe := rfl
@[simp] theorem takeTicks_dir : (s.takeTicks).dir = s.dir := rfl
@[simp] theorem takeTicks_level : (s.takeTicks).level = s.level := rfl
@[simp] theorem takeTicks_owner : (s.takeTicks).owner = s.owner := rfl
@[simp] theorem takeTicks_duty : (s.takeTicks).duty = s.duty := rfl
@[simp] theorem takeTicks_speed : (s.takeTicks).speed = s.speed := rfl
@[simp] theorem takeTicks_transpose : (s.takeTicks).transpose = s.transpose := rfl
@[simp] theorem takeTicks_synValid : (s.takeTicks).synValid = s.synValid := rfl
@[simp] theorem takeTicks_res : (s.takeTicks).res = s.res := rfl
@[simp] theorem takeTicks_resValid : (s.takeTicks).resValid = s.resValid := rfl
@[simp] theorem takeTicks_tmask : (s.takeTicks).tmask = s.tmask := rfl
@[simp] theorem takeTicks_tpend : (s.takeTicks).tpend = s.tpend := rfl
@[simp] theorem takeTicks_hist : (s.takeTicks).hist = s.hist := rfl
@[simp] theorem takeTicks_stream : (s.takeTicks).stream = s.stream := rfl
@[simp] theorem takeTicks_ci : (s.takeTicks).ci = s.ci := rfl
@[simp] theorem takeTicks_cfg : (s.takeTicks).cfg = s.cfg := rfl
@[simp] theorem takeTicks_env : (s.takeTicks).env = { s.env with ticks := s.env.ticks.tail, tickNo := s.env.tickNo + 1 } := rfl

/-! `State.takeSample` -/

@[simp] theorem takeSample_active : (s.takeSample).active = s.active := rfl
@[simp] theorem takeSample_pending : (s.takeSample).pending = s.pending := rfl
@[simp] theorem takeSample_ms : (s.takeSample).ms = s.ms := rfl
@[simp] theorem takeSample_pwmcnt : (s.takeSample).pwmcnt = s.pwmcnt := rfl
@[simp] theorem takeSample_subcnt : (s.takeSample).subcnt = s.subcnt := rfl
@[simp] theorem takeSample_timerRun : (s.takeSample).timerRun = s.timerRun := rfl
@[simp] theorem takeSample_clkFull : (s.takeSample).clkFull = s.clkFull := rfl
@[simp] theorem takeSample_adcReady : (s.takeSample).adcReady = s.adcReady := rfl
@[simp] theorem takeSample_pullSh : (s.takeSample).pullSh = s.pullSh := rfl
@[simp] theorem takeSample_swp : (s.takeSample).swp = s.swp := rfl
@[simp] theorem takeSample_safe : (s.takeSample).safe = s.safe := rfl
@[simp] theorem takeSample_dir : (s.takeSample).dir = s.dir := rfl
@[simp] theorem takeSample_level : (s.takeSample).level = s.level := rfl
@[simp] theorem takeSample_owner : (s.takeSample).owner = s.owner := rfl
@[simp] theorem takeSample_duty : (s.takeSample).duty = s.duty := rfl
@[simp] theorem takeSample_speed : (s.takeSample).speed = s.speed := rfl
@[simp] theorem takeSample_transpose : (s.takeSample).transpose = s.transpose := rfl
@[simp] theorem takeSample_synValid : (s.takeSample).synValid = s.synValid := rfl
@[simp] theorem takeSample_res : (s.takeSample).res = s.res := rfl
@[simp] theorem takeSample_resValid : (s.takeSample).resValid = s.resValid := rfl
@[simp] theorem takeSample_tmask : (s.takeSample).tmask = s.tmask := rfl
@[simp] theorem takeSample_tpend : (s.takeSample).tpend = s.tpend := rfl
@[simp] theorem takeSample_hist : (s.takeSample).hist = s.hist := rfl
@[simp] theorem takeSample_stream : (s.takeSample).stream = s.stream := rfl
@[simp] theorem takeSample_ci : (s.takeSample).ci = s.ci := rfl
@[simp] theorem takeSample_cfg : (s.takeSample).cfg = s.cfg := rfl
@[simp] theorem takeSample_env : (s.takeSample).env = { s.env with samples := s.env.samples.tail, sampleNo := s.env.sampleNo + 1 } := rfl

/-! `State.maskTick` -/

@[simp] theorem maskTick_active : (s.maskTick).active = s.active := rfl
@[simp] theorem maskTick_pending : (s.maskTick).pending = s.pending := rfl
@[simp] theorem maskTick_ms : (s.maskTick).ms = s.ms := rfl
@[simp] theorem maskTick_pwmcnt : (s.maskTick).pwmcnt = s.pwmcnt := rfl
@[simp] theorem maskTick_subcnt : (s.maskTick).subcnt = s.subcnt := rfl
@[simp] theorem maskTick_timerRun : (s.maskTick).timerRun = s.timerRun := rfl
@[simp] theorem maskTick_clkFull : (s.maskTick).clkFull = s.clkFull := rfl
@[simp] theorem maskTick_adcReady : (s.maskTick).adcReady = s.adcReady := rfl
@[simp] theorem maskTick_pullSh : (s.maskTick).pullSh = s.pullSh := rfl
@[simp] theorem maskTick_swp : (s.maskTick).swp = s.swp := rfl
@[simp] theorem maskTick_safe : (s.maskTick).safe = s.safe := rfl
@[simp] theorem maskTick_dir : (s.maskTick).dir = s.dir := rfl
@[simp] theorem maskTick_level : (s.maskTick).level = s.level := rfl
@[simp] theorem maskTick_owner : (s.maskTick).owner = s.owner := rfl
@[simp] theorem maskTick_duty : (s.maskTick).duty = s.duty := rfl
@[simp] theorem maskTick_speed : (s.maskTick).speed = s.speed := rfl
@[simp] theorem maskTick_transpose : (s.maskTick).transpose = s.transpose := rfl
@[simp] theorem maskTick_synValid : (s.maskTick).synValid = s.synValid := rfl
@[simp] theorem maskTick_res : (s.maskTick).res = s.res := rfl
@[simp] theorem maskTick_resValid : (s.maskTick).resValid = s.resValid := rfl
@[simp] theorem maskTick_tmask : (s.maskTick).tmask = true := rfl
@[simp] theorem maskTick_tpend : (s.maskTick).tpend = s.tpend := rfl
@[simp] theorem maskTick_hist : (s.maskTick).hist = s.hist := rfl
@[simp] theorem maskTick_stream : (s.maskTick).stream = s.stream := rfl
@[simp] theorem maskTick_ci : (s.maskTick).ci = s.ci := rfl
@[simp] theorem maskTick_cfg : (s.maskTick).cfg = s.cfg := rfl
@[simp] theorem maskTick_env : (s.maskTick).env = s.env := rfl

/-! `State.returnValue` -/

@[simp] theorem returnValue_active (v : Word) : (s.returnValue v).active = s.active := rfl
@[simp] theorem returnValue_pending (v : Word) : (s.returnValue v).pending = s.pending := rfl
@[simp] theorem returnValue_ms (v : Word) : (s.returnValue v).ms = s.ms := rfl
@[simp] theorem returnValue_pwmcnt (v : Word) : (s.returnValue v).pwmcnt = s.pwmcnt := rfl
@[simp] theorem returnValue_subcnt (v : Word) : (s.returnValue v).subcnt = s.subcnt := rfl
@[simp] theorem returnValue_timerRun (v : Word) : (s.returnValue v).timerRun = s.timerRun := rfl
@[simp] theorem returnValue_clkFull (v : Word) : (s.returnValue v).clkFull = s.clkFull := rfl
@[simp] theorem returnValue_adcReady (v : Word) : (s.returnValue v).adcReady = s.adcReady := rfl
@[simp] theorem returnValue_pullSh (v : Word) : (s.returnValue v).pullSh = s.pullSh := rfl
@[simp] theorem returnValue_swp (v : Word) : (s.returnValue v).swp = s.swp := rfl
@[simp] theorem returnValue_safe (v : Word) : (s.returnValue v).safe = s.safe := rfl
@[simp] theorem returnValue_dir (v : Word) : (s.returnValue v).dir = s.dir := rfl
@[simp] theorem returnValue_level (v : Word) : (s.returnValue v).level = s.level := rfl
@[simp] theorem returnValue_owner (v : Word) : (s.returnValue v).owner = s.owner := rfl
@[simp] theorem returnValue_duty (v : Word) : (s.returnValue v).duty = s.duty := rfl
@[simp] theorem returnValue_speed (v : Word) : (s.returnValue v).speed = s.speed := rfl
@[simp] theorem returnValue_transpose (v : Word) : (s.returnValue v).transpose = s.transpose := rfl
@[simp] theorem returnValue_synValid (v : Word) : (s.returnValue v).synValid = s.synValid := rfl
@[simp] theorem returnValue_res (v : Word) : (s.returnValue v).res = v := rfl
@[simp] theorem returnValue_resValid (v : Word) : (s.returnValue v).resValid = true := rfl
@[simp] theorem returnValue_tmask (v : Word) : (s.returnValue v).tmask = s.tmask := rfl
@[simp] theorem returnValue_tpend (v : Word) : (s.returnValue v).tpend = s.tpend := rfl
@[simp] theorem returnValue_hist (v : Word) : (s.returnValue v).hist = s.hist ++ [.result v] := rfl
@[simp] theorem returnValue_stream (v : Word) : (s.returnValue v).stream = s.stream := rfl
@[simp] theorem returnValue_ci (v : Word) : (s.returnValue v).ci = s.ci := rfl
@[simp] theorem returnValue_cfg (v : Word) : (s.returnValue v).cfg = s.cfg := rfl
@[simp] theorem returnValue_env (v : Word) : (s.returnValue v).env = s.env := rfl

/-! `State.raiseSwp` -/

@[simp] theorem raiseSwp_active : (s.raiseSwp).active = s.active := rfl
@[simp] theorem raiseSwp_pending : (s.raiseSwp).pending = s.pending := rfl
@[simp] theorem raiseSwp_ms : (s.raiseSwp).ms = s.ms := rfl
@[simp] theorem raiseSwp_pwmcnt : (s.raiseSwp).pwmcnt = s.pwmcnt := rfl
@[simp] theorem raiseSwp_subcnt : (s.raiseSwp).subcnt = s.subcnt := rfl
@[simp] theorem raiseSwp_timerRun : (s.raiseSwp).timerRun = s.timerRun := rfl
@[simp] theorem raiseSwp_clkFull : (s.raiseSwp).clkFull = s.clkFull := rfl
@[simp] theorem raiseSwp_adcReady : (s.raiseSwp).adcReady = s.adcReady := rfl
@[simp] theorem raiseSwp_pullSh : (s.raiseSwp).pullSh = s.pullSh := rfl
@[simp] theorem raiseSwp_swp : (s.raiseSwp).swp = true := rfl
@[simp] theorem raiseSwp_safe : (s.raiseSwp).safe = s.safe := rfl
@[simp] theorem raiseSwp_dir : (s.raiseSwp).dir = s.dir := rfl
@[simp] theorem raiseSwp_level : (s.raiseSwp).level = s.level := rfl
@[simp] theorem raiseSwp_owner : (s.raiseSwp).owner = s.owner := rfl
@[simp] theorem raiseSwp_duty : (s.raiseSwp).duty = s.duty := rfl
@[simp] theorem raiseSwp_speed : (s.raiseSwp).speed = s.speed := rfl
@[simp] theorem raiseSwp_transpose : (s.raiseSwp).transpose = s.transpose := rfl
@[simp] theorem raiseSwp_synValid : (s.raiseSwp).synValid = s.synValid := rfl
@[simp] theorem raiseSwp_res : (s.raiseSwp).res = s.res := rfl
@[simp] theorem raiseSwp_resValid : (s.raiseSwp).resValid = s.resValid := rfl
@[simp] theorem raiseSwp_tmask : (s.raiseSwp).tmask = s.tmask := rfl
@[simp] theorem raiseSwp_tpend : (s.raiseSwp).tpend = s.tpend := rfl
@[simp] theorem raiseSwp_hist : (s.raiseSwp).hist = s.hist := rfl
@[simp] theorem raiseSwp_stream : (s.raiseSwp).stream = s.stream := rfl
@[simp] theorem raiseSwp_ci : (s.raiseSwp).ci = s.ci := rfl
@[simp] theorem raiseSwp_cfg : (s.raiseSwp).cfg = s.cfg := rfl
@[simp] theorem raiseSwp_env : (s.raiseSwp).env = s.env := rfl

/-! `State.clearSwp` -/

@[simp] theorem clearSwp_active : (s.clearSwp).active = s.active := rfl
@[simp] theorem clearSwp_pending : (s.clearSwp).pending = s.pending := rfl
@[simp] theorem clearSwp_ms : (s.clearSwp).ms = s.ms := rfl
@[simp] theorem clearSwp_pwmcnt : (s.clearSwp).pwmcnt = s.pwmcnt := rfl
@[simp] theorem clearSwp_subcnt : (s.clearSwp).subcnt = s.subcnt := rfl
@[simp] theorem clearSwp_timerRun : (s.clearSwp).timerRun = s.timerRun := rfl
@[simp] theorem clearSwp_clkFull : (s.clearSwp).clkFull = s.clkFull := rfl
@[simp] theorem clearSwp_adcReady : (s.clearSwp).adcReady = s.adcReady := rfl
@[simp] theorem clearSwp_pullSh : (s.clearSwp).pullSh = s.pullSh := rfl
@[simp] theorem clearSwp_swp : (s.clearSwp).swp = false := rfl
@[simp] theorem clearSwp_safe : (s.clearSwp).safe = s.safe := rfl
@[simp] theorem clearSwp_dir : (s.clearSwp).dir = s.dir := rfl
@[simp] theorem clearSwp_level : (s.clearSwp).level = s.level := rfl
@[simp] theorem clearSwp_owner : (s.clearSwp).owner = s.owner := rfl
@[simp] theorem clearSwp_duty : (s.clearSwp).duty = s.duty := rfl
@[simp] theorem clearSwp_speed : (s.clearSwp).speed = s.speed := rfl
@[simp] theorem clearSwp_transpose : (s.clearSwp).transpose = s.transpose := rfl
@[simp] theorem clearSwp_synValid : (s.clearSwp).synValid = s.synValid := rfl
@[simp] theorem clearSwp_res : (s.clearSwp).res = s.res := rfl
@[simp] theorem clearSwp_resValid : (s.clearSwp).resValid = s.resValid := rfl
@[simp] theorem clearSwp_tmask : (s.clearSwp).tmask = s.tmask := rfl
@[simp] theorem clearSwp_tpend : (s.clearSwp).tpend = s.tpend := rfl
@[simp] theorem clearSwp_hist : (s.clearSwp).hist = s.hist := rfl
@[simp] theorem clearSwp_stream : (s.clearSwp).stream = s.stream := rfl
@[simp] theorem clearSwp_ci : (s.clearSwp).ci = s.ci := rfl
@[simp] theorem clearSwp_cfg : (s.clearSwp).cfg = s.cfg := rfl
@[simp] theorem clearSwp_env : (s.clearSwp).env = s.env := rfl

/-! `State.dropSafe` -/

@[simp] theorem dropSafe_active : (s.dropSafe).active = s.active := rfl
@[simp] theorem dropSafe_pending : (s.dropSafe).pending = s.pending := rfl
@[simp] theorem dropSafe_ms : (s.dropSafe).ms = s.ms := rfl
@[simp] theorem dropSafe_pwmcnt : (s.dropSafe).pwmcnt = s.pwmcnt := rfl
@[simp] theorem dropSafe_subcnt : (s.dropSafe).subcnt = s.subcnt := rfl
@[simp] theorem dropSafe_timerRun : (s.dropSafe).timerRun = s.timerRun := rfl
@[simp] theorem dropSafe_clkFull : (s.dropSafe).clkFull = s.clkFull := rfl
@[simp] theorem dropSafe_adcReady : (s.dropSafe).adcReady = s.adcReady := rfl
@[simp] theorem dropSafe_pullSh : (s.dropSafe).pullSh = s.pullSh := rfl
@[simp] theorem dropSafe_swp : (s.dropSafe).swp = s.swp := rfl
@[simp] theorem dropSafe_safe : (s.dropSafe).safe = false := rfl
@[simp] theorem dropSafe_dir : (s.dropSafe).dir = s.dir := rfl
@[simp] theorem dropSafe_level : (s.dropSafe).level = s.level := rfl
@[simp] theorem dropSafe_owner : (s.dropSafe).owner = s.owner := rfl
@[simp] theorem dropSafe_duty : (s.dropSafe).duty = s.duty := rfl
@[simp] theorem dropSafe_speed : (s.dropSafe).speed = s.speed := rfl
@[simp] theorem dropSafe_transpose : (s.dropSafe).transpose = s.transpose := rfl
@[simp] theorem dropSafe_synValid : (s.dropSafe).synValid = s.synValid := rfl
@[simp] theorem dropSafe_res : (s.dropSafe).res = s.res := rfl
@[simp] theorem dropSafe_resValid : (s.dropSafe).resValid = s.resValid := rfl
@[simp] theorem dropSafe_tmask : (s.dropSafe).tmask = s.tmask := rfl
@[simp] theorem dropSafe_tpend : (s.dropSafe).tpend = s.tpend := rfl
@[simp] theorem dropSafe_hist : (s.dropSafe).hist = s.hist := rfl
@[simp] theorem dropSafe_stream : (s.dropSafe).stream = s.stream := rfl
@[simp] theorem dropSafe_ci : (s.dropSafe).ci = s.ci := rfl
@[simp] theorem dropSafe_cfg : (s.dropSafe).cfg = s.cfg := rfl
@[simp] theorem dropSafe_env : (s.dropSafe).env = s.env := rfl

/-! `State.setOwner` -/

@[simp] theorem setOwner_active (o : Owner) : (s.setOwner o).active = s.active := rfl
@[simp] theorem setOwner_pending (o : Owner) : (s.setOwner o).pending = s.pending := rfl
@[simp] theorem setOwner_ms (o : Owner) : (s.setOwner o).ms = s.ms := rfl
@[simp] theorem setOwner_pwmcnt (o : Owner) : (s.setOwner o).pwmcnt = s.pwmcnt := rfl
@[simp] theorem setOwner_subcnt (o : Owner) : (s.setOwner o).subcnt = s.subcnt := rfl
@[simp] theorem setOwner_timerRun (o : Owner) : (s.setOwner o).timerRun = s.timerRun := rfl
@[simp] theorem setOwner_clkFull (o : Owner) : (s.setOwner o).clkFull = s.clkFull := rfl
@[simp] theorem setOwner_adcReady (o : Owner) : (s.setOwner o).adcReady = s.adcReady := rfl
@[simp] theorem setOwner_pullSh (o : Owner) : (s.setOwner o).pullSh = s.pullSh := rfl
@[simp] theorem setOwner_swp (o : Owner) : (s.setOwner o).swp = s.swp := rfl
@[simp] theorem setOwner_safe (o : Owner) : (s.setOwner o).safe = s.safe := rfl
@[simp] theorem setOwner_dir (o : Owner) : (s.setOwner o).dir = s.dir := rfl
@[simp] theorem setOwner_level (o : Owner) : (s.setOwner o).level = s.level := rfl
@[simp] theorem setOwner_owner (o : Owner) : (s.setOwner o).owner = o := rfl
@[simp] theorem setOwner_duty (o : Owner) : (s.setOwner o).duty = s.duty := rfl
@[simp] theorem setOwner_speed (o : Owner) : (s.setOwner o).speed = s.speed := rfl
@[simp] theorem setOwner_transpose (o : Owner) : (s.setOwner o).transpose = s.transpose := rfl
@[simp] theorem setOwner_synValid (o : Owner) : (s.setOwner o).synValid = s.synValid := rfl
@[simp] theorem setOwner_res (o : Owner) : (s.setOwner o).res = s.res := rfl
@[simp] theorem setOwner_resValid (o : Owner) : (s.setOwner o).resValid = s.resValid := rfl
@[simp] theorem setOwner_tmask (o : Owner) : (s.setOwner o).tmask = s.tmask := rfl
@[simp] theorem setOwner_tpend (o : Owner) : (s.setOwner o).tpend = s.tpend := rfl
@[simp] theorem setOwner_hist (o : Owner) : (s.setOwner o).hist = s.hist := rfl
@[simp] theorem setOwner_stream (o : Owner) : (s.setOwner o).stream = s.stream := rfl
@[simp] theorem setOwner_ci (o : Owner) : (s.setOwner o).ci = s.ci := rfl
@[simp] theorem setOwner_cfg (o : Owner) : (s.setOwner o).cfg = s.cfg := rfl
@[simp] theorem setOwner_env (o : Owner) : (s.setOwner o).env = s.env := rfl

/-! `State.fullClock` -/

@[simp] theorem fullClock_active : (s.fullClock).active = s.active := rfl
@[simp] theorem fullClock_pending : (s.fullClock).pending = s.pending := rfl
@[simp] theorem fullClock_ms : (s.fullClock).ms = s.ms := rfl
@[simp] theorem fullClock_pwmcnt : (s.fullClock).pwmcnt = s.pwmcnt := rfl
@[simp] theorem fullClock_subcnt : (s.fullClock).subcnt = s.subcnt := rfl
@[simp] theorem fullClock_timerRun : (s.fullClock).timerRun = s.timerRun := rfl
@[simp] theorem fullClock_clkFull : (s.fullClock).clkFull = true := rfl
@[simp] theorem fullClock_adcReady : (s.fullClock).adcReady = s.adcReady := rfl
@[simp] theorem fullClock_pullSh : (s.fullClock).pullSh = s.pullSh := rfl
@[simp] theorem fullClock_swp : (s.fullClock).swp = s.swp := rfl
@[simp] theorem fullClock_safe : (s.fullClock).safe = s.safe := rfl
@[simp] theorem fullClock_dir : (s.fullClock).dir = s.dir := rfl
@[simp] theorem fullClock_level : (s.fullClock).level = s.level := rfl
@[simp] theorem fullClock_owner : (s.fullClock).owner = s.owner := rfl
@[simp] theorem fullClock_duty : (s.fullClock).duty = s.duty := rfl
@[simp] theorem fullClock_speed : (s.fullClock).speed = s.speed := rfl
@[simp] theorem fullClock_transpose : (s.fullClock).transpose = s.transpose := rfl
@[simp] theorem fullClock_synValid : (s.fullClock).synValid = s.synValid := rfl
@[simp] theorem fullClock_res : (s.fullClock).res = s.res := rfl
@[simp] theorem fullClock_resValid : (s.fullClock).resValid = s.resValid := rfl
@[simp] theorem fullClock_tmask : (s.fullClock).tmask = s.tmask := rfl
@[simp] theorem fullClock_tpend : (s.fullClock).tpend = s.tpend := rfl
@[simp] theorem fullClock_hist : (s.fullClock).hist = s.hist := rfl
@[simp] theorem fullClock_stream : (s.fullClock).stream = s.stream := rfl
@[simp] theorem fullClock_ci : (s.fullClock).ci = s.ci := rfl
@[simp] theorem fullClock_cfg : (s.fullClock).cfg = s.cfg := rfl
@[simp] theorem fullClock_env : (s.fullClock).env = s.env := rfl

/-! `State.startTimer` -/

@[simp] theorem startTimer_active : (s.startTimer).active = s.active := rfl
@[simp] theorem startTimer_pending : (s.startTimer).pending = s.pending := rfl
@[simp] theorem startTimer_ms : (s.startTimer).ms = s.ms := rfl
@[simp] theorem startTimer_pwmcnt : (s.startTimer).pwmcnt = s.pwmcnt := rfl
@[simp] theorem startTimer_subcnt : (s.startTimer).subcnt = s.subcnt := rfl
@[simp] theorem startTimer_timerRun : (s.startTimer).timerRun = true := rfl
@[simp] theorem startTimer_clkFull : (s.startTimer).clkFull = s.clkFull := rfl
@[simp] theorem startTimer_adcReady : (s.startTimer).adcReady = s.adcReady := rfl
@[simp] theorem startTimer_pullSh : (s.startTimer).pullSh = s.pullSh := rfl
@[simp] theorem startTimer_swp : (s.startTimer).swp = s.swp := rfl
@[simp] theorem startTimer_safe : (s.startTimer).safe = s.safe := rfl
@[simp] theorem startTimer_dir : (s.startTimer).dir = s.dir := rfl
@[simp] theorem startTimer_level : (s.startTimer).level = s.level := rfl
@[simp] theorem startTimer_owner : (s.startTimer).owner = s.owner := rfl
@[simp] theorem startTimer_duty : (s.startTimer).duty = s.duty := rfl
@[simp] theorem startTimer_speed : (s.startTimer).speed = s.speed := rfl
@[simp] theorem startTimer_transpose : (s.startTimer).transpose = s.transpose := rfl
@[simp] theorem startTimer_synValid : (s.startTimer).synValid = s.synValid := rfl
@[simp] theorem startTimer_res : (s.startTimer).res = s.res := rfl
@[simp] theorem startTimer_resValid : (s.startTimer).resValid = s.resValid := rfl
@[simp] theorem startTimer_tmask : (s.startTimer).tmask = s.tmask := rfl
@[simp] theorem startTimer_tpend : (s.startTimer).tpend = s.tpend := rfl
@[simp] theorem startTimer_hist : (s.startTimer).hist = s.hist := rfl
@[simp] theorem startTimer_stream : (s.startTimer).stream = s.stream := rfl
@[simp] theorem startTimer_ci : (s.startTimer).ci = s.ci := rfl
@[simp] theorem startTimer_cfg : (s.startTimer).cfg = s.cfg := rfl
@[simp] theorem startTimer_env : (s.startTimer).env = s.env := rfl

/-! `State.initAdc` -/

@[simp] theorem initAdc_active : (s.initAdc).active = s.active := rfl
@[simp] theorem initAdc_pending : (s.initAdc).pending = s.pending := rfl
@[simp] theorem initAdc_ms : (s.initAdc).ms = s.ms := rfl
@[simp] theorem initAdc_pwmcnt : (s.initAdc).pwmcnt = s.pwmcnt := rfl
@[simp] theorem initAdc_subcnt : (s.initAdc).subcnt = s.subcnt := rfl
@[simp] theorem initAdc_timerRun : (s.initAdc).timerRun = s.timerRun := rfl
@[simp] theorem initAdc_clkFull : (s.initAdc).clkFull = s.clkFull := rfl
@[simp] theorem initAdc_adcReady : (s.initAdc).adcReady = (s.cfg.micEnable || s.adcReady) := rfl
@[simp] theorem initAdc_pullSh : (s.initAdc).pullSh = s.pullSh := rfl
@[simp] theorem initAdc_swp : (s.initAdc).swp = s.swp := rfl
@[simp] theorem initAdc_safe : (s.initAdc).safe = s.safe := rfl
@[simp] theorem initAdc_dir : (s.initAdc).dir = s.dir := rfl
@[simp] theorem initAdc_level : (s.initAdc).level = s.level := rfl
@[simp] theorem initAdc_owner : (s.initAdc).owner = s.owner := rfl
@[simp] theorem initAdc_duty : (s.initAdc).duty = s.duty := rfl
@[simp] theorem initAdc_speed : (s.initAdc).speed = s.speed := rfl
@[simp] theorem initAdc_transpose : (s.initAdc).transpose = s.transpose := rfl
@[simp] theorem initAdc_synValid : (s.initAdc).synValid = s.synValid := rfl
@[simp] theorem initAdc_res : (s.initAdc).res = s.res := rfl
@[simp] theorem initAdc_resValid : (s.initAdc).resValid = s.resValid := rfl
@[simp] theorem initAdc_tmask : (s.initAdc).tmask = s.tmask := rfl
@[simp] theorem initAdc_tpend : (s.initAdc).tpend = s.tpend := rfl
@[simp] theorem initAdc_hist : (s.initAdc).hist = s.hist := rfl
@[simp] theorem initAdc_stream : (s.initAdc).stream = s.stream := rfl
@[simp] theorem initAdc_ci : (s.initAdc).ci = s.ci := rfl
@[simp] theorem initAdc_cfg : (s.initAdc).cfg = s.cfg := rfl
@[simp] theorem initAdc_env : (s.initAdc).env = s.env := rfl

/-! `State.countStep` -/

@[simp] theorem countStep_active : (s.countStep).active = s.active := rfl
@[simp] theorem countStep_pending : (s.countStep).pending = s.pending := rfl
@[simp] theorem countStep_ms : (s.countStep).ms = s.ms := rfl
@[simp] theorem countStep_pwmcnt : (s.countStep).pwmcnt = s.pwmcnt + 1 := rfl
@[simp] theorem countStep_subcnt : (s.countStep).subcnt = s.subcnt := rfl
@[simp] theorem countStep_timerRun : (s.countStep).timerRun = s.timerRun := rfl
@[simp] theorem countStep_clkFull : (s.countStep).clkFull = s.clkFull := rfl
@[simp] theorem countStep_adcReady : (s.countStep).adcReady = s.adcReady := rfl
@[simp] theorem countStep_pullSh : (s.countStep).pullSh = s.pullSh := rfl
@[simp] theorem countStep_swp : (s.countStep).swp = s.swp := rfl
@[simp] theorem countStep_safe : (s.countStep).safe = s.safe := rfl
@[simp] theorem countStep_dir : (s.countStep).dir = s.dir := rfl
@[simp] theorem countStep_level : (s.countStep).level = s.level := rfl
@[simp] theorem countStep_owner : (s.countStep).owner = s.owner := rfl
@[simp] theorem countStep_duty : (s.countStep).duty = s.duty := rfl
@[simp] theorem countStep_speed : (s.countStep).speed = s.speed := rfl
@[simp] theorem countStep_transpose : (s.countStep).transpose = s.transpose := rfl
@[simp] theorem countStep_synValid : (s.countStep).synValid = s.synValid := rfl
@[simp] theorem countStep_res : (s.countStep).res = s.res := rfl
@[simp] theorem countStep_resValid : (s.countStep).resValid = s.resValid := rfl
@[simp] theorem countStep_tmask : (s.countStep).tmask = s.tmask := rfl
@[simp] theorem countStep_tpend : (s.countStep).tpend = s.tpend := rfl
@[simp] theorem countStep_hist : (s.countStep).hist = s.hist := rfl
@[simp] theorem countStep_stream : (s.countStep).stream = s.stream := rfl
@[simp] theorem countStep_ci : (s.countStep).ci = s.ci := rfl
@[simp] theorem countStep_cfg : (s.countStep).cfg = s.cfg := rfl
@[simp] theorem countStep_env : (s.countStep).env = s.env := rfl

/-! `State.countCycle` -/

@[simp] theorem countCycle_active : (s.countCycle).active = s.active := rfl
@[simp] theorem countCycle_pending : (s.countCycle).pending = s.pending := rfl
@[simp] theorem countCycle_ms : (s.countCycle).ms = s.ms := rfl
@[simp] theorem countCycle_pwmcnt : (s.countCycle).pwmcnt = s.pwmcnt := rfl
@[simp] theorem countCycle_subcnt : (s.countCycle).subcnt = (s.subcnt + 1) % s.cfg.sampleDiv := rfl
@[simp] theorem countCycle_timerRun : (s.countCycle).timerRun = s.timerRun := rfl
@[simp] theorem countCycle_clkFull : (s.countCycle).clkFull = s.clkFull := rfl
@[simp] theorem countCycle_adcReady : (s.countCycle).adcReady = s.adcReady := rfl
@[simp] theorem countCycle_pullSh : (s.countCycle).pullSh = s.pullSh := rfl
@[simp] theorem countCycle_swp : (s.countCycle).swp = s.swp := rfl
@[simp] theorem countCycle_safe : (s.countCycle).safe = s.safe := rfl
@[simp] theorem countCycle_dir : (s.countCycle).dir = s.dir := rfl
@[simp] theorem countCycle_level : (s.countCycle).level = s.level := rfl
@[simp] theorem countCycle_owner : (s.countCycle).owner = s.owner := rfl
@[simp] theorem countCycle_duty : (s.countCycle).duty = s.duty := rfl
@[simp] theorem countCycle_speed : (s.countCycle).speed = s.speed := rfl
@[simp] theorem countCycle_transpose : (s.countCycle).transpose = s.transpose := rfl
@[simp] theorem countCycle_synValid : (s.countCycle).synValid = s.synValid := rfl
@[simp] theorem countCycle_res : (s.countCycle).res = s.res := rfl
@[simp] theorem countCycle_resValid : (s.countCycle).resValid = s.resValid := rfl
@[simp] theorem countCycle_tmask : (s.countCycle).tmask = s.tmask := rfl
@[simp] theorem countCycle_tpend : (s.countCycle).tpend = s.tpend := rfl
@[simp] theorem countCycle_hist : (s.countCycle).hist = s.hist := rfl
@[simp] theorem countCycle_stream : (s.countCycle).stream = s.stream := rfl
@[simp] theorem countCycle_ci : (s.countCycle).ci = s.ci := rfl
@[simp] theorem countCycle_cfg : (s.countCycle).cfg = s.cfg := rfl
@[simp] theorem countCycle_env : (s.countCycle).env = s.env := rfl

/-! `State.copyBanks` -/

@[simp] theorem copyBanks_active : (s.copyBanks).active = s.pending := rfl
@[simp] theorem copyBanks_pending : (s.copyBanks).pending = s.pending := rfl
@[simp] theorem copyBanks_ms : (s.copyBanks).ms = s.ms := rfl
@[simp] theorem copyBanks_pwmcnt : (s.copyBanks).pwmcnt = s.pwmcnt := rfl
@[simp] theorem copyBanks_subcnt : (s.copyBanks).subcnt = s.subcnt := rfl
@[simp] theorem copyBanks_timerRun : (s.copyBanks).timerRun = s.timerRun := rfl
@[simp] theorem copyBanks_clkFull : (s.copyBanks).clkFull = s.clkFull := rfl
@[simp] theorem copyBanks_adcReady : (s.copyBanks).adcReady = s.adcReady := rfl
@[simp] theorem copyBanks_pullSh : (s.copyBanks).pullSh = s.pullSh := rfl
@[simp] theorem copyBanks_swp : (s.copyBanks).swp = s.swp := rfl
@[simp] theorem copyBanks_safe : (s.copyBanks).safe = s.safe := rfl
@[simp] theorem copyBanks_dir : (s.copyBanks).dir = s.dir := rfl
@[simp] theorem copyBanks_level : (s.copyBanks).level = s.level := rfl
@[simp] theorem copyBanks_owner : (s.copyBanks).owner = s.owner := rfl
@[simp] theorem copyBanks_duty : (s.copyBanks).duty = s.duty := rfl
@[simp] theorem copyBanks_speed : (s.copyBanks).speed = s.speed := rfl
@[simp] theorem copyBanks_transpose : (s.copyBanks).transpose = s.transpose := rfl
@[simp] theorem copyBanks_synValid : (s.copyBanks).synValid = s.synValid := rfl
@[simp] theorem copyBanks_res : (s.copyBanks).res = s.res := rfl
@[simp] theorem copyBanks_resValid : (s.copyBanks).resValid = s.resValid := rfl
@[simp] theorem copyBanks_tmask : (s.copyBanks).tmask = s.tmask := rfl
@[simp] theorem copyBanks_tpend : (s.copyBanks).tpend = s.tpend := rfl
@[simp] theorem copyBanks_hist : (s.copyBanks).hist = s.hist := rfl
@[simp] theorem copyBanks_stream : (s.copyBanks).stream = s.stream := rfl
@[simp] theorem copyBanks_ci : (s.copyBanks).ci = s.ci := rfl
@[simp] theorem copyBanks_cfg : (s.copyBanks).cfg = s.cfg := rfl
@[simp] theorem copyBanks_env : (s.copyBanks).env = s.env := rfl

/-! `State.setPending` -/

@[simp] theorem setPending_active (c : Fin 4) (b : Byte) : (s.setPending c b).active = s.active := rfl
@[simp] theorem setPending_pending (c : Fin 4) (b : Byte) : (s.setPending c b).pending = s.pending.set c b := rfl
@[simp] theorem setPending_ms (c : Fin 4) (b : Byte) : (s.setPending c b).ms = s.ms := rfl
@[simp] theorem setPending_pwmcnt (c : Fin 4) (b : Byte) : (s.setPending c b).pwmcnt = s.pwmcnt := rfl
@[simp] theorem setPending_subcnt (c : Fin 4) (b : Byte) : (s.setPending c b).subcnt = s.subcnt := rfl
@[simp] theorem setPending_timerRun (c : Fin 4) (b : Byte) : (s.setPending c b).timerRun = s.timerRun := rfl
@[simp] theorem setPending_clkFull (c : Fin 4) (b : Byte) : (s.setPending c b).clkFull = s.clkFull := rfl
@[simp] theorem setPending_adcReady (c : Fin 4) (b : Byte) : (s.setPending c b).adcReady = s.adcReady := rfl
@[simp] theorem setPending_pullSh (c : Fin 4) (b : Byte) : (s.setPending c b).pullSh = s.pullSh := rfl
@[simp] theorem setPending_swp (c : Fin 4) (b : Byte) : (s.setPending c b).swp = s.swp := rfl
@[simp] theorem setPending_safe (c : Fin 4) (b : Byte) : (s.setPending c b).safe = s.safe := rfl
@[simp] theorem setPending_dir (c : Fin 4) (b : Byte) : (s.setPending c b).dir = s.dir := rfl
@[simp] theorem setPending_level (c : Fin 4) (b : Byte) : (s.setPending c b).level = s.level := rfl
@[simp] theorem setPending_owner (c : Fin 4) (b : Byte) : (s.setPending c b).owner = s.owner := rfl
@[simp] theorem setPending_duty (c : Fin 4) (b : Byte) : (s.setPending c b).duty = s.duty := rfl
@[simp] theorem setPending_speed (c : Fin 4) (b : Byte) : (s.setPending c b).speed = s.speed := rfl
@[simp] theorem setPending_transpose (c : Fin 4) (b : Byte) : (s.setPending c b).transpose = s.transpose := rfl
@[simp] theorem setPending_synValid (c : Fin 4) (b : Byte) : (s.setPending c b).synValid = s.synValid := rfl
@[simp] theorem setPending_res (c : Fin 4) (b : Byte) : (s.setPending c b).res = s.res := rfl
@[simp] theorem setPending_resValid (c : Fin 4) (b : Byte) : (s.setPending c b).resValid = s.resValid := rfl
@[simp] theorem setPending_tmask (c : Fin 4) (b : Byte) : (s.setPending c b).tmask = s.tmask := rfl
@[simp] theorem setPending_tpend (c : Fin 4) (b : Byte) : (s.setPending c b).tpend = s.tpend := rfl
@[simp] theorem setPending_hist (c : Fin 4) (b : Byte) : (s.setPending c b).hist = s.hist := rfl
@[simp] theorem setPending_stream (c : Fin 4) (b : Byte) : (s.setPending c b).stream = s.stream := rfl
@[simp] theorem setPending_ci (c : Fin 4) (b : Byte) : (s.setPending c b).ci = s.ci := rfl
@[simp] theorem setPending_cfg (c : Fin 4) (b : Byte) : (s.setPending c b).cfg = s.cfg := rfl
@[simp] theorem setPending_env (c : Fin 4) (b : Byte) : (s.setPending c b).env = s.env := rfl

/-! `State.configureAdc` -/

@[simp] theorem configureAdc_active : (s.configureAdc).active = s.active := rfl
@[simp] theorem configureAdc_pending : (s.configureAdc).pending = s.pending := rfl
@[simp] theorem configureAdc_ms : (s.configureAdc).ms = s.ms := rfl
@[simp] theorem configureAdc_pwmcnt : (s.configureAdc).pwmcnt = s.pwmcnt := rfl
@[simp] theorem configureAdc_subcnt : (s.configureAdc).subcnt = s.subcnt := rfl
@[simp] theorem configureAdc_timerRun : (s.configureAdc).timerRun = s.timerRun := rfl
@[simp] theorem configureAdc_clkFull : (s.configureAdc).clkFull = s.clkFull := rfl
@[simp] theorem configureAdc_adcReady : (s.configureAdc).adcReady = true := rfl
@[simp] theorem configureAdc_pullSh : (s.configureAdc).pullSh = false := rfl
@[simp] theorem configureAdc_swp : (s.configureAdc).swp = s.swp := rfl
@[simp] theorem configureAdc_safe : (s.configureAdc).safe = s.safe := rfl
@[simp] theorem configureAdc_dir : (s.configureAdc).dir = s.dir := rfl
@[simp] theorem configureAdc_level : (s.configureAdc).level = s.level := rfl
@[simp] theorem configureAdc_owner : (s.configureAdc).owner = s.owner := rfl
@[simp] theorem configureAdc_duty : (s.configureAdc).duty = s.duty := rfl
@[simp] theorem configureAdc_speed : (s.configureAdc).speed = s.speed := rfl
@[simp] theorem configureAdc_transpose : (s.configureAdc).transpose = s.transpose := rfl
@[simp] theorem configureAdc_synValid : (s.configureAdc).synValid = s.synValid := rfl
@[simp] theorem configureAdc_res : (s.configureAdc).res = s.res := rfl
@[simp] theorem configureAdc_resValid : (s.configureAdc).resValid = s.resValid := rfl
@[simp] theorem configureAdc_tmask : (s.configureAdc).tmask = s.tmask := rfl
@[simp] theorem configureAdc_tpend : (s.configureAdc).tpend = s.tpend := rfl
@[simp] theorem configureAdc_hist : (s.configureAdc).hist = s.hist := rfl
@[simp] theorem configureAdc_stream : (s.configureAdc).stream = s.stream := rfl
@[simp] theorem configureAdc_ci : (s.configureAdc).ci = s.ci := rfl
@[simp] theorem configureAdc_cfg : (s.configureAdc).cfg = s.cfg := rfl
@[simp] theorem configureAdc_env : (s.configureAdc).env = s.env := rfl

/-! `State.zeroBanks` -/

@[simp] theorem zeroBanks_active : (s.zeroBanks).active = Vector.replicate 4 0 := rfl
@[simp] theorem zeroBanks_pending : (s.zeroBanks).pending = Vector.replicate 4 0 := rfl
@[simp] theorem zeroBanks_ms : (s.zeroBanks).ms = s.ms := rfl
@[simp] theorem zeroBanks_pwmcnt : (s.zeroBanks).pwmcnt = s.pwmcnt := rfl
@[simp] theorem zeroBanks_subcnt : (s.zeroBanks).subcnt = s.subcnt := rfl
@[simp] theorem zeroBanks_timerRun : (s.zeroBanks).timerRun = s.timerRun := rfl
@[simp] theorem zeroBanks_clkFull : (s.zeroBanks).clkFull = s.clkFull := rfl
@[simp] theorem zeroBanks_adcReady : (s.zeroBanks).adcReady = s.adcReady := rfl
@[simp] theorem zeroBanks_pullSh : (s.zeroBanks).pullSh = s.pullSh := rfl
@[simp] theorem zeroBanks_swp : (s.zeroBanks).swp = s.swp := rfl
@[simp] theorem zeroBanks_safe : (s.zeroBanks).safe = s.safe := rfl
@[simp] theorem zeroBanks_dir : (s.zeroBanks).dir = s.dir := rfl
@[simp] theorem zeroBanks_level : (s.zeroBanks).level = s.level := rfl
@[simp] theorem zeroBanks_owner : (s.zeroBanks).owner = s.owner := rfl
@[simp] theorem zeroBanks_duty : (s.zeroBanks).duty = s.duty := rfl
@[simp] theorem zeroBanks_speed : (s.zeroBanks).speed = s.speed := rfl
@[simp] theorem zeroBanks_transpose : (s.zeroBanks).transpose = s.transpose := rfl
@[simp] theorem zeroBanks_synValid : (s.zeroBanks).synValid = s.synValid := rfl
@[simp] theorem zeroBanks_res : (s.zeroBanks).res = s.res := rfl
@[simp] theorem zeroBanks_resValid : (s.zeroBanks).resValid = s.resValid := rfl
@[simp] theorem zeroBanks_tmask : (s.zeroBanks).tmask = s.tmask := rfl
@[simp] theorem zeroBanks_tpend : (s.zeroBanks).tpend = s.tpend := rfl
@[simp] theorem zeroBanks_hist : (s.zeroBanks).hist = s.hist := rfl
@[simp] theorem zeroBanks_stream : (s.zeroBanks).stream = s.stream := rfl
@[simp] theorem zeroBanks_ci : (s.zeroBanks).ci = s.ci := rfl
@[simp] theorem zeroBanks_cfg : (s.zeroBanks).cfg = s.cfg := rfl
@[simp] theorem zeroBanks_env : (s.zeroBanks).env = s.env := rfl

/-! `State.writeLeds` -/

@[simp] theorem writeLeds_active (f : Fin 4 → Bool) : (s.writeLeds f).active = s.active := by simp [State.writeLeds]
@[simp] theorem writeLeds_pending (f : Fin 4 → Bool) : (s.writeLeds f).pending = s.pending := by simp [State.writeLeds]
@[simp] theorem writeLeds_ms (f : Fin 4 → Bool) : (s.writeLeds f).ms = s.ms := by simp [State.writeLeds]
@[simp] theorem writeLeds_pwmcnt (f : Fin 4 → Bool) : (s.writeLeds f).pwmcnt = s.pwmcnt := by simp [State.writeLeds]
@[simp] theorem writeLeds_subcnt (f : Fin 4 → Bool) : (s.writeLeds f).subcnt = s.subcnt := by simp [State.writeLeds]
@[simp] theorem writeLeds_timerRun (f : Fin 4 → Bool) : (s.writeLeds f).timerRun = s.timerRun := by simp [State.writeLeds]
@[simp] theorem writeLeds_clkFull (f : Fin 4 → Bool) : (s.writeLeds f).clkFull = s.clkFull := by simp [State.writeLeds]
@[simp] theorem writeLeds_adcReady (f : Fin 4 → Bool) : (s.writeLeds f).adcReady = s.adcReady := by simp [State.writeLeds]
@[simp] theorem writeLeds_pullSh (f : Fin 4 → Bool) : (s.writeLeds f).pullSh = s.pullSh := by simp [State.writeLeds]
@[simp] theorem writeLeds_swp (f : Fin 4 → Bool) : (s.writeLeds f).swp = s.swp := by simp [State.writeLeds]
@[simp] theorem writeLeds_safe (f : Fin 4 → Bool) : (s.writeLeds f).safe = s.safe := by simp [State.writeLeds]
@[simp] theorem writeLeds_dir (f : Fin 4 → Bool) : (s.writeLeds f).dir = s.dir := by simp [State.writeLeds]
@[simp] theorem writeLeds_level (f : Fin 4 → Bool) : (s.writeLeds f).level = (((s.level.set 0 (f 0)).set 1 (f 1)).set 2 (f 2)).set 3 (f 3) := by simp [State.writeLeds, Pin.index]
@[simp] theorem writeLeds_owner (f : Fin 4 → Bool) : (s.writeLeds f).owner = s.owner := by simp [State.writeLeds]
@[simp] theorem writeLeds_duty (f : Fin 4 → Bool) : (s.writeLeds f).duty = s.duty := by simp [State.writeLeds]
@[simp] theorem writeLeds_speed (f : Fin 4 → Bool) : (s.writeLeds f).speed = s.speed := by simp [State.writeLeds]
@[simp] theorem writeLeds_transpose (f : Fin 4 → Bool) : (s.writeLeds f).transpose = s.transpose := by simp [State.writeLeds]
@[simp] theorem writeLeds_synValid (f : Fin 4 → Bool) : (s.writeLeds f).synValid = s.synValid := by simp [State.writeLeds]
@[simp] theorem writeLeds_res (f : Fin 4 → Bool) : (s.writeLeds f).res = s.res := by simp [State.writeLeds]
@[simp] theorem writeLeds_resValid (f : Fin 4 → Bool) : (s.writeLeds f).resValid = s.resValid := by simp [State.writeLeds]
@[simp] theorem writeLeds_tmask (f : Fin 4 → Bool) : (s.writeLeds f).tmask = s.tmask := by simp [State.writeLeds]
@[simp] theorem writeLeds_tpend (f : Fin 4 → Bool) : (s.writeLeds f).tpend = s.tpend := by simp [State.writeLeds]
@[simp] theorem writeLeds_hist (f : Fin 4 → Bool) : (s.writeLeds f).hist = s.hist ++
    [.level (.led 0) (f 0), .level (.led 1) (f 1), .level (.led 2) (f 2), .level (.led 3) (f 3)] := by simp [State.writeLeds]
@[simp] theorem writeLeds_stream (f : Fin 4 → Bool) : (s.writeLeds f).stream = s.stream := by simp [State.writeLeds]
@[simp] theorem writeLeds_ci (f : Fin 4 → Bool) : (s.writeLeds f).ci = s.ci := by simp [State.writeLeds]
@[simp] theorem writeLeds_cfg (f : Fin 4 → Bool) : (s.writeLeds f).cfg = s.cfg := by simp [State.writeLeds]
@[simp] theorem writeLeds_env (f : Fin 4 → Bool) : (s.writeLeds f).env = s.env := by simp [State.writeLeds]

/-! `State.ledsOut` -/

@[simp] theorem ledsOut_active : (s.ledsOut).active = s.active := by simp [State.ledsOut]
@[simp] theorem ledsOut_pending : (s.ledsOut).pending = s.pending := by simp [State.ledsOut]
@[simp] theorem ledsOut_ms : (s.ledsOut).ms = s.ms := by simp [State.ledsOut]
@[simp] theorem ledsOut_pwmcnt : (s.ledsOut).pwmcnt = s.pwmcnt := by simp [State.ledsOut]
@[simp] theorem ledsOut_subcnt : (s.ledsOut).subcnt = s.subcnt := by simp [State.ledsOut]
@[simp] theorem ledsOut_timerRun : (s.ledsOut).timerRun = s.timerRun := by simp [State.ledsOut]
@[simp] theorem ledsOut_clkFull : (s.ledsOut).clkFull = s.clkFull := by simp [State.ledsOut]
@[simp] theorem ledsOut_adcReady : (s.ledsOut).adcReady = s.adcReady := by simp [State.ledsOut]
@[simp] theorem ledsOut_pullSh : (s.ledsOut).pullSh = s.pullSh := by simp [State.ledsOut]
@[simp] theorem ledsOut_swp : (s.ledsOut).swp = s.swp := by simp [State.ledsOut]
@[simp] theorem ledsOut_safe : (s.ledsOut).safe = s.safe := by simp [State.ledsOut]
@[simp] theorem ledsOut_dir : (s.ledsOut).dir = (((s.dir.set 0 .output).set 1 .output).set 2 .output).set 3 .output := by simp [State.ledsOut, Pin.index]
@[simp] theorem ledsOut_level : (s.ledsOut).level = s.level := by simp [State.ledsOut]
@[simp] theorem ledsOut_owner : (s.ledsOut).owner = s.owner := by simp [State.ledsOut]
@[simp] theorem ledsOut_duty : (s.ledsOut).duty = s.duty := by simp [State.ledsOut]
@[simp] theorem ledsOut_speed : (s.ledsOut).speed = s.speed := by simp [State.ledsOut]
@[simp] theorem ledsOut_transpose : (s.ledsOut).transpose = s.transpose := by simp [State.ledsOut]
@[simp] theorem ledsOut_synValid : (s.ledsOut).synValid = s.synValid := by simp [State.ledsOut]
@[simp] theorem ledsOut_res : (s.ledsOut).res = s.res := by simp [State.ledsOut]
@[simp] theorem ledsOut_resValid : (s.ledsOut).resValid = s.resValid := by simp [State.ledsOut]
@[simp] theorem ledsOut_tmask : (s.ledsOut).tmask = s.tmask := by simp [State.ledsOut]
@[simp] theorem ledsOut_tpend : (s.ledsOut).tpend = s.tpend := by simp [State.ledsOut]
@[simp] theorem ledsOut_hist : (s.ledsOut).hist = s.hist ++
    [.dir (.led 0) .output, .dir (.led 1) .output, .dir (.led 2) .output, .dir (.led 3) .output] := by simp [State.ledsOut]
@[simp] theorem ledsOut_stream : (s.ledsOut).stream = s.stream := by simp [State.ledsOut]
@[simp] theorem ledsOut_ci : (s.ledsOut).ci = s.ci := by simp [State.ledsOut]
@[simp] theorem ledsOut_cfg : (s.ledsOut).cfg = s.cfg := by simp [State.ledsOut]
@[simp] theorem ledsOut_env : (s.ledsOut).env = s.env := by simp [State.ledsOut]

/-! `State.passCommand` -/

@[simp] theorem passCommand_active (i : Instr) : (s.passCommand i).active = s.active := rfl
@[simp] theorem passCommand_pending (i : Instr) : (s.passCommand i).pending = s.pending := rfl
@[simp] theorem passCommand_ms (i : Instr) : (s.passCommand i).ms = s.ms := rfl
@[simp] theorem passCommand_pwmcnt (i : Instr) : (s.passCommand i).pwmcnt = s.pwmcnt := rfl
@[simp] theorem passCommand_subcnt (i : Instr) : (s.passCommand i).subcnt = s.subcnt := rfl
@[simp] theorem passCommand_timerRun (i : Instr) : (s.passCommand i).timerRun = s.timerRun := rfl
@[simp] theorem passCommand_clkFull (i : Instr) : (s.passCommand i).clkFull = s.clkFull := rfl
@[simp] theorem passCommand_adcReady (i : Instr) : (s.passCommand i).adcReady = s.adcReady := rfl
@[simp] theorem passCommand_pullSh (i : Instr) : (s.passCommand i).pullSh = s.pullSh := rfl
@[simp] theorem passCommand_swp (i : Instr) : (s.passCommand i).swp = s.swp := rfl
@[simp] theorem passCommand_safe (i : Instr) : (s.passCommand i).safe = s.safe := rfl
@[simp] theorem passCommand_dir (i : Instr) : (s.passCommand i).dir = s.dir := rfl
@[simp] theorem passCommand_level (i : Instr) : (s.passCommand i).level = s.level := rfl
@[simp] theorem passCommand_owner (i : Instr) : (s.passCommand i).owner = s.owner := rfl
@[simp] theorem passCommand_duty (i : Instr) : (s.passCommand i).duty = s.duty := rfl
@[simp] theorem passCommand_speed (i : Instr) : (s.passCommand i).speed = s.speed := rfl
@[simp] theorem passCommand_transpose (i : Instr) : (s.passCommand i).transpose = s.transpose := rfl
@[simp] theorem passCommand_synValid (i : Instr) : (s.passCommand i).synValid = s.synValid := rfl
@[simp] theorem passCommand_res (i : Instr) : (s.passCommand i).res = s.res := rfl
@[simp] theorem passCommand_resValid (i : Instr) : (s.passCommand i).resValid = s.resValid := rfl
@[simp] theorem passCommand_tmask (i : Instr) : (s.passCommand i).tmask = s.tmask := rfl
@[simp] theorem passCommand_tpend (i : Instr) : (s.passCommand i).tpend = s.tpend := rfl
@[simp] theorem passCommand_hist (i : Instr) : (s.passCommand i).hist = s.hist := rfl
@[simp] theorem passCommand_stream (i : Instr) : (s.passCommand i).stream = s.stream := rfl
@[simp] theorem passCommand_ci (i : Instr) : (s.passCommand i).ci = s.ci + i.length := rfl
@[simp] theorem passCommand_cfg (i : Instr) : (s.passCommand i).cfg = s.cfg := rfl
@[simp] theorem passCommand_env (i : Instr) : (s.passCommand i).env = s.env := rfl

end Sys2Proof.Machine
end

