-- ==== Sys2Proof/Laws/Ops.lean ====
section
/-! SUPPORT. For each shared operation of Ops, what it can do, said once: the interrupt, tick points, delays, pin writes. -/

namespace Sys2Proof.Machine

variable (s : State)

/-! The interrupt (R185 to R190). A tick changes MS, TPEND and HIST at most. -/

@[simp] theorem tickDue_active : (s.tickDue).active = s.active := by unfold State.tickDue; split <;> (try split) <;> rfl
@[simp] theorem tickDue_pending : (s.tickDue).pending = s.pending := by unfold State.tickDue; split <;> (try split) <;> rfl
@[simp] theorem tickDue_pwmcnt : (s.tickDue).pwmcnt = s.pwmcnt := by unfold State.tickDue; split <;> (try split) <;> rfl
@[simp] theorem tickDue_subcnt : (s.tickDue).subcnt = s.subcnt := by unfold State.tickDue; split <;> (try split) <;> rfl
@[simp] theorem tickDue_timerRun : (s.tickDue).timerRun = s.timerRun := by unfold State.tickDue; split <;> (try split) <;> rfl
@[simp] theorem tickDue_clkFull : (s.tickDue).clkFull = s.clkFull := by unfold State.tickDue; split <;> (try split) <;> rfl
@[simp] theorem tickDue_adcReady : (s.tickDue).adcReady = s.adcReady := by unfold State.tickDue; split <;> (try split) <;> rfl
@[simp] theorem tickDue_pullSh : (s.tickDue).pullSh = s.pullSh := by unfold State.tickDue; split <;> (try split) <;> rfl
@[simp] theorem tickDue_swp : (s.tickDue).swp = s.swp := by unfold State.tickDue; split <;> (try split) <;> rfl
@[simp] theorem tickDue_safe : (s.tickDue).safe = s.safe := by unfold State.tickDue; split <;> (try split) <;> rfl
@[simp] theorem tickDue_dir : (s.tickDue).dir = s.dir := by unfold State.tickDue; split <;> (try split) <;> rfl
@[simp] theorem tickDue_level : (s.tickDue).level = s.level := by unfold State.tickDue; split <;> (try split) <;> rfl
@[simp] theorem tickDue_owner : (s.tickDue).owner = s.owner := by unfold State.tickDue; split <;> (try split) <;> rfl
@[simp] theorem tickDue_duty : (s.tickDue).duty = s.duty := by unfold State.tickDue; split <;> (try split) <;> rfl
@[simp] theorem tickDue_speed : (s.tickDue).speed = s.speed := by unfold State.tickDue; split <;> (try split) <;> rfl
@[simp] theorem tickDue_transpose : (s.tickDue).transpose = s.transpose := by unfold State.tickDue; split <;> (try split) <;> rfl
@[simp] theorem tickDue_synValid : (s.tickDue).synValid = s.synValid := by unfold State.tickDue; split <;> (try split) <;> rfl
@[simp] theorem tickDue_res : (s.tickDue).res = s.res := by unfold State.tickDue; split <;> (try split) <;> rfl
@[simp] theorem tickDue_resValid : (s.tickDue).resValid = s.resValid := by unfold State.tickDue; split <;> (try split) <;> rfl
@[simp] theorem tickDue_tmask : (s.tickDue).tmask = s.tmask := by unfold State.tickDue; split <;> (try split) <;> rfl
@[simp] theorem tickDue_stream : (s.tickDue).stream = s.stream := by unfold State.tickDue; split <;> (try split) <;> rfl
@[simp] theorem tickDue_ci : (s.tickDue).ci = s.ci := by unfold State.tickDue; split <;> (try split) <;> rfl
@[simp] theorem tickDue_cfg : (s.tickDue).cfg = s.cfg := by unfold State.tickDue; split <;> (try split) <;> rfl
@[simp] theorem tickDue_env : (s.tickDue).env = s.env := by unfold State.tickDue; split <;> (try split) <;> rfl

/-! Ticks falling due one after another. -/

@[simp] theorem ticksDue_active (k : Nat) : (s.ticksDue k).active = s.active := by
  induction k generalizing s with
  | zero => rfl
  | succ k ih => simp [State.ticksDue, ih]
@[simp] theorem ticksDue_pending (k : Nat) : (s.ticksDue k).pending = s.pending := by
  induction k generalizing s with
  | zero => rfl
  | succ k ih => simp [State.ticksDue, ih]
@[simp] theorem ticksDue_pwmcnt (k : Nat) : (s.ticksDue k).pwmcnt = s.pwmcnt := by
  induction k generalizing s with
  | zero => rfl
  | succ k ih => simp [State.ticksDue, ih]
@[simp] theorem ticksDue_subcnt (k : Nat) : (s.ticksDue k).subcnt = s.subcnt := by
  induction k generalizing s with
  | zero => rfl
  | succ k ih => simp [State.ticksDue, ih]
@[simp] theorem ticksDue_timerRun (k : Nat) : (s.ticksDue k).timerRun = s.timerRun := by
  induction k generalizing s with
  | zero => rfl
  | succ k ih => simp [State.ticksDue, ih]
@[simp] theorem ticksDue_clkFull (k : Nat) : (s.ticksDue k).clkFull = s.clkFull := by
  induction k generalizing s with
  | zero => rfl
  | succ k ih => simp [State.ticksDue, ih]
@[simp] theorem ticksDue_adcReady (k : Nat) : (s.ticksDue k).adcReady = s.adcReady := by
  induction k generalizing s with
  | zero => rfl
  | succ k ih => simp [State.ticksDue, ih]
@[simp] theorem ticksDue_pullSh (k : Nat) : (s.ticksDue k).pullSh = s.pullSh := by
  induction k generalizing s with
  | zero => rfl
  | succ k ih => simp [State.ticksDue, ih]
@[simp] theorem ticksDue_swp (k : Nat) : (s.ticksDue k).swp = s.swp := by
  induction k generalizing s with
  | zero => rfl
  | succ k ih => simp [State.ticksDue, ih]
@[simp] theorem ticksDue_safe (k : Nat) : (s.ticksDue k).safe = s.safe := by
  induction k generalizing s with
  | zero => rfl
  | succ k ih => simp [State.ticksDue, ih]
@[simp] theorem ticksDue_dir (k : Nat) : (s.ticksDue k).dir = s.dir := by
  induction k generalizing s with
  | zero => rfl
  | succ k ih => simp [State.ticksDue, ih]
@[simp] theorem ticksDue_level (k : Nat) : (s.ticksDue k).level = s.level := by
  induction k generalizing s with
  | zero => rfl
  | succ k ih => simp [State.ticksDue, ih]
@[simp] theorem ticksDue_owner (k : Nat) : (s.ticksDue k).owner = s.owner := by
  induction k generalizing s with
  | zero => rfl
  | succ k ih => simp [State.ticksDue, ih]
@[simp] theorem ticksDue_duty (k : Nat) : (s.ticksDue k).duty = s.duty := by
  induction k generalizing s with
  | zero => rfl
  | succ k ih => simp [State.ticksDue, ih]
@[simp] theorem ticksDue_speed (k : Nat) : (s.ticksDue k).speed = s.speed := by
  induction k generalizing s with
  | zero => rfl
  | succ k ih => simp [State.ticksDue, ih]
@[simp] theorem ticksDue_transpose (k : Nat) : (s.ticksDue k).transpose = s.transpose := by
  induction k generalizing s with
  | zero => rfl
  | succ k ih => simp [State.ticksDue, ih]
@[simp] theorem ticksDue_synValid (k : Nat) : (s.ticksDue k).synValid = s.synValid := by
  induction k generalizing s with
  | zero => rfl
  | succ k ih => simp [State.ticksDue, ih]
@[simp] theorem ticksDue_res (k : Nat) : (s.ticksDue k).res = s.res := by
  induction k generalizing s with
  | zero => rfl
  | succ k ih => simp [State.ticksDue, ih]
@[simp] theorem ticksDue_resValid (k : Nat) : (s.ticksDue k).resValid = s.resValid := by
  induction k generalizing s with
  | zero => rfl
  | succ k ih => simp [State.ticksDue, ih]
@[simp] theorem ticksDue_tmask (k : Nat) : (s.ticksDue k).tmask = s.tmask := by
  induction k generalizing s with
  | zero => rfl
  | succ k ih => simp [State.ticksDue, ih]
@[simp] theorem ticksDue_stream (k : Nat) : (s.ticksDue k).stream = s.stream := by
  induction k generalizing s with
  | zero => rfl
  | succ k ih => simp [State.ticksDue, ih]
@[simp] theorem ticksDue_ci (k : Nat) : (s.ticksDue k).ci = s.ci := by
  induction k generalizing s with
  | zero => rfl
  | succ k ih => simp [State.ticksDue, ih]
@[simp] theorem ticksDue_cfg (k : Nat) : (s.ticksDue k).cfg = s.cfg := by
  induction k generalizing s with
  | zero => rfl
  | succ k ih => simp [State.ticksDue, ih]
@[simp] theorem ticksDue_env (k : Nat) : (s.ticksDue k).env = s.env := by
  induction k generalizing s with
  | zero => rfl
  | succ k ih => simp [State.ticksDue, ih]

/-- Unmasked and running, `k` due ticks are `k` TICKs. R100. -/
theorem ticksDue_running (k : Nat) (hr : s.timerRun = true) (hm : s.tmask = false) :
    (s.ticksDue k).ms = s.ms + BitVec.ofNat 32 k ∧ (s.ticksDue k).tpend = s.tpend ∧
      (s.ticksDue k).hist = s.hist ++ List.replicate k .tick := by
  induction k generalizing s with
  | zero => simp [State.ticksDue]
  | succ k ih =>
    have ht : s.tickDue = s.tick := by simp [State.tickDue, hr, hm]
    have h := ih s.tick (by simpa using hr) (by simpa using hm)
    rw [State.ticksDue, ht, h.1, h.2.1, h.2.2]
    refine ⟨?_, rfl, ?_⟩
    · rw [tick_ms, Nat.add_comm k 1, BitVec.ofNat_add, BitVec.add_assoc]
      rfl
    · simp [List.replicate_succ]

/-- The number of TICKs at a tick point: none with the timer stopped (R100), else the next count. -/
def State.ticksHere : Nat := if s.timerRun then s.nextTicks else 0

/-! Tick points (R67 b, R70). -/

@[simp] theorem tickPoint_active : (s.tickPoint).active = s.active := by unfold State.tickPoint; split <;> simp
@[simp] theorem tickPoint_pending : (s.tickPoint).pending = s.pending := by unfold State.tickPoint; split <;> simp
@[simp] theorem tickPoint_pwmcnt : (s.tickPoint).pwmcnt = s.pwmcnt := by unfold State.tickPoint; split <;> simp
@[simp] theorem tickPoint_subcnt : (s.tickPoint).subcnt = s.subcnt := by unfold State.tickPoint; split <;> simp
@[simp] theorem tickPoint_timerRun : (s.tickPoint).timerRun = s.timerRun := by unfold State.tickPoint; split <;> simp
@[simp] theorem tickPoint_clkFull : (s.tickPoint).clkFull = s.clkFull := by unfold State.tickPoint; split <;> simp
@[simp] theorem tickPoint_adcReady : (s.tickPoint).adcReady = s.adcReady := by unfold State.tickPoint; split <;> simp
@[simp] theorem tickPoint_pullSh : (s.tickPoint).pullSh = s.pullSh := by unfold State.tickPoint; split <;> simp
@[simp] theorem tickPoint_swp : (s.tickPoint).swp = s.swp := by unfold State.tickPoint; split <;> simp
@[simp] theorem tickPoint_safe : (s.tickPoint).safe = s.safe := by unfold State.tickPoint; split <;> simp
@[simp] theorem tickPoint_dir : (s.tickPoint).dir = s.dir := by unfold State.tickPoint; split <;> simp
@[simp] theorem tickPoint_level : (s.tickPoint).level = s.level := by unfold State.tickPoint; split <;> simp
@[simp] theorem tickPoint_owner : (s.tickPoint).owner = s.owner := by unfold State.tickPoint; split <;> simp
@[simp] theorem tickPoint_duty : (s.tickPoint).duty = s.duty := by unfold State.tickPoint; split <;> simp
@[simp] theorem tickPoint_speed : (s.tickPoint).speed = s.speed := by unfold State.tickPoint; split <;> simp
@[simp] theorem tickPoint_transpose : (s.tickPoint).transpose = s.transpose := by unfold State.tickPoint; split <;> simp
@[simp] theorem tickPoint_synValid : (s.tickPoint).synValid = s.synValid := by unfold State.tickPoint; split <;> simp
@[simp] theorem tickPoint_res : (s.tickPoint).res = s.res := by unfold State.tickPoint; split <;> simp
@[simp] theorem tickPoint_resValid : (s.tickPoint).resValid = s.resValid := by unfold State.tickPoint; split <;> simp
@[simp] theorem tickPoint_tmask : (s.tickPoint).tmask = s.tmask := by unfold State.tickPoint; split <;> simp
@[simp] theorem tickPoint_stream : (s.tickPoint).stream = s.stream := by unfold State.tickPoint; split <;> simp
@[simp] theorem tickPoint_ci : (s.tickPoint).ci = s.ci := by unfold State.tickPoint; split <;> simp
@[simp] theorem tickPoint_cfg : (s.tickPoint).cfg = s.cfg := by unfold State.tickPoint; split <;> simp
@[simp] theorem tickPoint_samples : s.tickPoint.env.samples = s.env.samples := by
  unfold State.tickPoint; split <;> simp
@[simp] theorem tickPoint_sampleNo : s.tickPoint.env.sampleNo = s.env.sampleNo := by
  unfold State.tickPoint; split <;> simp

/-- With the timer stopped a tick point does nothing. R100. -/
theorem tickPoint_stopped (hr : s.timerRun = false) : s.tickPoint = s := by simp [State.tickPoint, hr]

/-- While the interrupt is unmasked a tick point adds `ticksHere` TICKs to MS. -/
theorem tickPoint_ms (hm : s.tmask = false) : s.tickPoint.ms = s.ms + BitVec.ofNat 32 s.ticksHere := by
  unfold State.tickPoint State.ticksHere
  split
  · next hr => simp [(ticksDue_running s.takeTicks s.nextTicks (by simpa using hr) (by simpa using hm)).1]
  · simp

theorem tickPoint_tpend (hm : s.tmask = false) : s.tickPoint.tpend = s.tpend := by
  unfold State.tickPoint
  split
  · next hr => simp [(ticksDue_running s.takeTicks s.nextTicks (by simpa using hr) (by simpa using hm)).2.1]
  · rfl

theorem tickPoint_hist (hm : s.tmask = false) : s.tickPoint.hist = s.hist ++ List.replicate s.ticksHere .tick := by
  unfold State.tickPoint State.ticksHere
  split
  · next hr => simp [(ticksDue_running s.takeTicks s.nextTicks (by simpa using hr) (by simpa using hm)).2.2]
  · simp

/-! Delays (R14). -/

@[simp] theorem delay_active (us : Nat) : (s.delay us).active = s.active := by simp [State.delay]
@[simp] theorem delay_pending (us : Nat) : (s.delay us).pending = s.pending := by simp [State.delay]
@[simp] theorem delay_pwmcnt (us : Nat) : (s.delay us).pwmcnt = s.pwmcnt := by simp [State.delay]
@[simp] theorem delay_subcnt (us : Nat) : (s.delay us).subcnt = s.subcnt := by simp [State.delay]
@[simp] theorem delay_timerRun (us : Nat) : (s.delay us).timerRun = s.timerRun := by simp [State.delay]
@[simp] theorem delay_clkFull (us : Nat) : (s.delay us).clkFull = s.clkFull := by simp [State.delay]
@[simp] theorem delay_adcReady (us : Nat) : (s.delay us).adcReady = s.adcReady := by simp [State.delay]
@[simp] theorem delay_pullSh (us : Nat) : (s.delay us).pullSh = s.pullSh := by simp [State.delay]
@[simp] theorem delay_swp (us : Nat) : (s.delay us).swp = s.swp := by simp [State.delay]
@[simp] theorem delay_safe (us : Nat) : (s.delay us).safe = s.safe := by simp [State.delay]
@[simp] theorem delay_dir (us : Nat) : (s.delay us).dir = s.dir := by simp [State.delay]
@[simp] theorem delay_level (us : Nat) : (s.delay us).level = s.level := by simp [State.delay]
@[simp] theorem delay_owner (us : Nat) : (s.delay us).owner = s.owner := by simp [State.delay]
@[simp] theorem delay_duty (us : Nat) : (s.delay us).duty = s.duty := by simp [State.delay]
@[simp] theorem delay_speed (us : Nat) : (s.delay us).speed = s.speed := by simp [State.delay]
@[simp] theorem delay_transpose (us : Nat) : (s.delay us).transpose = s.transpose := by simp [State.delay]
@[simp] theorem delay_synValid (us : Nat) : (s.delay us).synValid = s.synValid := by simp [State.delay]
@[simp] theorem delay_res (us : Nat) : (s.delay us).res = s.res := by simp [State.delay]
@[simp] theorem delay_resValid (us : Nat) : (s.delay us).resValid = s.resValid := by simp [State.delay]
@[simp] theorem delay_tmask (us : Nat) : (s.delay us).tmask = s.tmask := by simp [State.delay]
@[simp] theorem delay_stream (us : Nat) : (s.delay us).stream = s.stream := by simp [State.delay]
@[simp] theorem delay_ci (us : Nat) : (s.delay us).ci = s.ci := by simp [State.delay]
@[simp] theorem delay_cfg (us : Nat) : (s.delay us).cfg = s.cfg := by simp [State.delay]
@[simp] theorem delay_samples (us : Nat) : (s.delay us).env.samples = s.env.samples := by simp [State.delay]
@[simp] theorem delay_sampleNo (us : Nat) : (s.delay us).env.sampleNo = s.env.sampleNo := by simp [State.delay]

theorem delay_ms (us : Nat) (hm : s.tmask = false) : (s.delay us).ms = s.ms + BitVec.ofNat 32 s.ticksHere := by
  rw [State.delay, tickPoint_ms _ (by simpa using hm)]
  rfl

theorem delay_tpend (us : Nat) (hm : s.tmask = false) : (s.delay us).tpend = s.tpend := by
  rw [State.delay, tickPoint_tpend _ (by simpa using hm), emit_tpend]

theorem delay_hist (us : Nat) (hm : s.tmask = false) :
    (s.delay us).hist = s.hist ++ .wait us :: List.replicate s.ticksHere .tick := by
  rw [State.delay, tickPoint_hist _ (by simpa using hm), emit_hist, List.append_assoc]
  rfl

/-- What a delay can change at all. R14. -/
theorem delay_same (us : Nat) :
    s.delay us = { s with
      ms := (s.delay us).ms, tpend := (s.delay us).tpend, hist := (s.delay us).hist, env := (s.delay us).env } := by
  apply State.ext <;> simp

/-! Conversions (R14, R133). -/

@[simp] theorem nextSample_delay (us : Nat) : (s.delay us).nextSample = s.nextSample := by simp [State.nextSample]
@[simp] theorem nextSample_dropSafe : s.dropSafe.nextSample = s.nextSample := rfl
@[simp] theorem nextSample_tickPoint : s.tickPoint.nextSample = s.nextSample := by simp [State.nextSample]

/-! The unmask (R102, R186). -/

@[simp] theorem unmaskTick_active : (s.unmaskTick).active = s.active := by unfold State.unmaskTick; split <;> simp
@[simp] theorem unmaskTick_pending : (s.unmaskTick).pending = s.pending := by unfold State.unmaskTick; split <;> simp
@[simp] theorem unmaskTick_pwmcnt : (s.unmaskTick).pwmcnt = s.pwmcnt := by unfold State.unmaskTick; split <;> simp
@[simp] theorem unmaskTick_subcnt : (s.unmaskTick).subcnt = s.subcnt := by unfold State.unmaskTick; split <;> simp
@[simp] theorem unmaskTick_timerRun : (s.unmaskTick).timerRun = s.timerRun := by unfold State.unmaskTick; split <;> simp
@[simp] theorem unmaskTick_clkFull : (s.unmaskTick).clkFull = s.clkFull := by unfold State.unmaskTick; split <;> simp
@[simp] theorem unmaskTick_adcReady : (s.unmaskTick).adcReady = s.adcReady := by unfold State.unmaskTick; split <;> simp
@[simp] theorem unmaskTick_pullSh : (s.unmaskTick).pullSh = s.pullSh := by unfold State.unmaskTick; split <;> simp
@[simp] theorem unmaskTick_swp : (s.unmaskTick).swp = s.swp := by unfold State.unmaskTick; split <;> simp
@[simp] theorem unmaskTick_safe : (s.unmaskTick).safe = s.safe := by unfold State.unmaskTick; split <;> simp
@[simp] theorem unmaskTick_dir : (s.unmaskTick).dir = s.dir := by unfold State.unmaskTick; split <;> simp
@[simp] theorem unmaskTick_level : (s.unmaskTick).level = s.level := by unfold State.unmaskTick; split <;> simp
@[simp] theorem unmaskTick_owner : (s.unmaskTick).owner = s.owner := by unfold State.unmaskTick; split <;> simp
@[simp] theorem unmaskTick_duty : (s.unmaskTick).duty = s.duty := by unfold State.unmaskTick; split <;> simp
@[simp] theorem unmaskTick_speed : (s.unmaskTick).speed = s.speed := by unfold State.unmaskTick; split <;> simp
@[simp] theorem unmaskTick_transpose : (s.unmaskTick).transpose = s.transpose := by unfold State.unmaskTick; split <;> simp
@[simp] theorem unmaskTick_synValid : (s.unmaskTick).synValid = s.synValid := by unfold State.unmaskTick; split <;> simp
@[simp] theorem unmaskTick_res : (s.unmaskTick).res = s.res := by unfold State.unmaskTick; split <;> simp
@[simp] theorem unmaskTick_resValid : (s.unmaskTick).resValid = s.resValid := by unfold State.unmaskTick; split <;> simp
@[simp] theorem unmaskTick_stream : (s.unmaskTick).stream = s.stream := by unfold State.unmaskTick; split <;> simp
@[simp] theorem unmaskTick_ci : (s.unmaskTick).ci = s.ci := by unfold State.unmaskTick; split <;> simp
@[simp] theorem unmaskTick_cfg : (s.unmaskTick).cfg = s.cfg := by unfold State.unmaskTick; split <;> simp
@[simp] theorem unmaskTick_env : (s.unmaskTick).env = s.env := by unfold State.unmaskTick; split <;> simp
@[simp] theorem unmaskTick_tmask : s.unmaskTick.tmask = false := by unfold State.unmaskTick; split <;> simp

/-! SAFE (R113). -/

@[simp] theorem raiseSafe_active : (s.raiseSafe).active = s.active := by unfold State.raiseSafe; split <;> rfl
@[simp] theorem raiseSafe_pending : (s.raiseSafe).pending = s.pending := by unfold State.raiseSafe; split <;> rfl
@[simp] theorem raiseSafe_ms : (s.raiseSafe).ms = s.ms := by unfold State.raiseSafe; split <;> rfl
@[simp] theorem raiseSafe_pwmcnt : (s.raiseSafe).pwmcnt = s.pwmcnt := by unfold State.raiseSafe; split <;> rfl
@[simp] theorem raiseSafe_subcnt : (s.raiseSafe).subcnt = s.subcnt := by unfold State.raiseSafe; split <;> rfl
@[simp] theorem raiseSafe_timerRun : (s.raiseSafe).timerRun = s.timerRun := by unfold State.raiseSafe; split <;> rfl
@[simp] theorem raiseSafe_clkFull : (s.raiseSafe).clkFull = s.clkFull := by unfold State.raiseSafe; split <;> rfl
@[simp] theorem raiseSafe_adcReady : (s.raiseSafe).adcReady = s.adcReady := by unfold State.raiseSafe; split <;> rfl
@[simp] theorem raiseSafe_pullSh : (s.raiseSafe).pullSh = s.pullSh := by unfold State.raiseSafe; split <;> rfl
@[simp] theorem raiseSafe_swp : (s.raiseSafe).swp = s.swp := by unfold State.raiseSafe; split <;> rfl
@[simp] theorem raiseSafe_dir : (s.raiseSafe).dir = s.dir := by unfold State.raiseSafe; split <;> rfl
@[simp] theorem raiseSafe_level : (s.raiseSafe).level = s.level := by unfold State.raiseSafe; split <;> rfl
@[simp] theorem raiseSafe_owner : (s.raiseSafe).owner = s.owner := by unfold State.raiseSafe; split <;> rfl
@[simp] theorem raiseSafe_duty : (s.raiseSafe).duty = s.duty := by unfold State.raiseSafe; split <;> rfl
@[simp] theorem raiseSafe_speed : (s.raiseSafe).speed = s.speed := by unfold State.raiseSafe; split <;> rfl
@[simp] theorem raiseSafe_transpose : (s.raiseSafe).transpose = s.transpose := by unfold State.raiseSafe; split <;> rfl
@[simp] theorem raiseSafe_synValid : (s.raiseSafe).synValid = s.synValid := by unfold State.raiseSafe; split <;> rfl
@[simp] theorem raiseSafe_res : (s.raiseSafe).res = s.res := by unfold State.raiseSafe; split <;> rfl
@[simp] theorem raiseSafe_resValid : (s.raiseSafe).resValid = s.resValid := by unfold State.raiseSafe; split <;> rfl
@[simp] theorem raiseSafe_tmask : (s.raiseSafe).tmask = s.tmask := by unfold State.raiseSafe; split <;> rfl
@[simp] theorem raiseSafe_tpend : (s.raiseSafe).tpend = s.tpend := by unfold State.raiseSafe; split <;> rfl
@[simp] theorem raiseSafe_hist : (s.raiseSafe).hist = s.hist := by unfold State.raiseSafe; split <;> rfl
@[simp] theorem raiseSafe_stream : (s.raiseSafe).stream = s.stream := by unfold State.raiseSafe; split <;> rfl
@[simp] theorem raiseSafe_ci : (s.raiseSafe).ci = s.ci := by unfold State.raiseSafe; split <;> rfl
@[simp] theorem raiseSafe_cfg : (s.raiseSafe).cfg = s.cfg := by unfold State.raiseSafe; split <;> rfl
@[simp] theorem raiseSafe_env : (s.raiseSafe).env = s.env := by unfold State.raiseSafe; split <;> rfl
theorem raiseSafe_safe : s.raiseSafe.safe = (decide (s.subcnt = 0) || s.safe) := by
  unfold State.raiseSafe; split <;> simp_all

/-! Pins (R14, R33). -/

theorem Pin.index_inj {p q : Pin} (h : p.index = q.index) : p = q := by
  cases p with
  | buzz =>
    cases q with
    | buzz => rfl
    | led d => have := congrArg Fin.val h; have := d.isLt; simp [Pin.index] at *; omega
  | led c =>
    cases q with
    | buzz => have := congrArg Fin.val h; have := c.isLt; simp [Pin.index] at *; omega
    | led d => have := congrArg Fin.val h; simp [Pin.index] at this; simp [Fin.ext_iff, this]

/-- A level write changes one pin. -/
theorem levelOf_setLevel (p q : Pin) (v : Bool) : (s.setLevel p v).levelOf q = if q = p then v else s.levelOf q := by
  by_cases h : q = p
  · subst h; simp [State.levelOf]
  · have : ¬ p.index.val = q.index.val := fun e => h (Pin.index_inj (Fin.ext e)).symm
    simp [State.levelOf, h, this]

/-- A direction write changes one pin. -/
theorem dirOf_setDir (p q : Pin) (d : Dir) : (s.setDir p d).dirOf q = if q = p then d else s.dirOf q := by
  by_cases h : q = p
  · subst h; simp [State.dirOf]
  · have : ¬ p.index.val = q.index.val := fun e => h (Pin.index_inj (Fin.ext e)).symm
    simp [State.dirOf, h, this]

/-- After the four levels are written, channel `c`'s level is `f c`. -/
@[simp] theorem levelOf_writeLeds_led (f : Fin 4 → Bool) (c : Fin 4) : (s.writeLeds f).levelOf (.led c) = f c := by
  unfold State.writeLeds
  rw [levelOf_setLevel, levelOf_setLevel, levelOf_setLevel, levelOf_setLevel]
  match c with
  | 0 => simp
  | 1 => simp
  | 2 => simp
  | 3 => simp

@[simp] theorem levelOf_writeLeds_buzz (f : Fin 4 → Bool) : (s.writeLeds f).levelOf .buzz = s.levelOf .buzz := by
  unfold State.writeLeds
  rw [levelOf_setLevel, levelOf_setLevel, levelOf_setLevel, levelOf_setLevel]
  simp

/-- After the LED pins are switched to output, only BUZZ keeps its direction. -/
theorem dirOf_ledsOut (p : Pin) : s.ledsOut.dirOf p = if p = .buzz then s.dirOf .buzz else .output := by
  unfold State.ledsOut
  rw [dirOf_setDir, dirOf_setDir, dirOf_setDir, dirOf_setDir]
  match p with
  | .buzz => simp
  | .led 0 => simp
  | .led 1 => simp
  | .led 2 => simp
  | .led 3 => simp

/-- A level depends on the LEVEL registers alone. -/
theorem levelOf_congr {s t : State} (h : s.level = t.level) (p : Pin) : s.levelOf p = t.levelOf p := by
  simp [State.levelOf, h]

/-- A direction depends on the DIR registers alone. -/
theorem dirOf_congr {s t : State} (h : s.dir = t.dir) (p : Pin) : s.dirOf p = t.dirOf p := by
  simp [State.dirOf, h]

end Sys2Proof.Machine
end

