-- ==== Sys2Proof/Laws/Families.lean ====
section
/-! SUPPORT. What the operations of the families can do, said once: the PWM step, the shared pin's arbitration, the indicator,
the wave, the reads. Fields no lemma names are those the operation can change. -/

namespace Sys2Proof.Machine

variable (s : State)

/-! The PWM step (R112). -/

@[simp] theorem swapBanks_pending : (s.swapBanks).pending = s.pending := by unfold State.swapBanks; split <;> rfl
@[simp] theorem swapBanks_ms : (s.swapBanks).ms = s.ms := by unfold State.swapBanks; split <;> rfl
@[simp] theorem swapBanks_pwmcnt : (s.swapBanks).pwmcnt = s.pwmcnt := by unfold State.swapBanks; split <;> rfl
@[simp] theorem swapBanks_subcnt : (s.swapBanks).subcnt = s.subcnt := by unfold State.swapBanks; split <;> rfl
@[simp] theorem swapBanks_timerRun : (s.swapBanks).timerRun = s.timerRun := by unfold State.swapBanks; split <;> rfl
@[simp] theorem swapBanks_clkFull : (s.swapBanks).clkFull = s.clkFull := by unfold State.swapBanks; split <;> rfl
@[simp] theorem swapBanks_adcReady : (s.swapBanks).adcReady = s.adcReady := by unfold State.swapBanks; split <;> rfl
@[simp] theorem swapBanks_pullSh : (s.swapBanks).pullSh = s.pullSh := by unfold State.swapBanks; split <;> rfl
@[simp] theorem swapBanks_safe : (s.swapBanks).safe = s.safe := by unfold State.swapBanks; split <;> rfl
@[simp] theorem swapBanks_dir : (s.swapBanks).dir = s.dir := by unfold State.swapBanks; split <;> rfl
@[simp] theorem swapBanks_level : (s.swapBanks).level = s.level := by unfold State.swapBanks; split <;> rfl
@[simp] theorem swapBanks_owner : (s.swapBanks).owner = s.owner := by unfold State.swapBanks; split <;> rfl
@[simp] theorem swapBanks_duty : (s.swapBanks).duty = s.duty := by unfold State.swapBanks; split <;> rfl
@[simp] theorem swapBanks_speed : (s.swapBanks).speed = s.speed := by unfold State.swapBanks; split <;> rfl
@[simp] theorem swapBanks_transpose : (s.swapBanks).transpose = s.transpose := by unfold State.swapBanks; split <;> rfl
@[simp] theorem swapBanks_synValid : (s.swapBanks).synValid = s.synValid := by unfold State.swapBanks; split <;> rfl
@[simp] theorem swapBanks_res : (s.swapBanks).res = s.res := by unfold State.swapBanks; split <;> rfl
@[simp] theorem swapBanks_resValid : (s.swapBanks).resValid = s.resValid := by unfold State.swapBanks; split <;> rfl
@[simp] theorem swapBanks_tmask : (s.swapBanks).tmask = s.tmask := by unfold State.swapBanks; split <;> rfl
@[simp] theorem swapBanks_tpend : (s.swapBanks).tpend = s.tpend := by unfold State.swapBanks; split <;> rfl
@[simp] theorem swapBanks_hist : (s.swapBanks).hist = s.hist := by unfold State.swapBanks; split <;> rfl
@[simp] theorem swapBanks_stream : (s.swapBanks).stream = s.stream := by unfold State.swapBanks; split <;> rfl
@[simp] theorem swapBanks_ci : (s.swapBanks).ci = s.ci := by unfold State.swapBanks; split <;> rfl
@[simp] theorem swapBanks_cfg : (s.swapBanks).cfg = s.cfg := by unfold State.swapBanks; split <;> rfl
@[simp] theorem swapBanks_env : (s.swapBanks).env = s.env := by unfold State.swapBanks; split <;> rfl
@[simp] theorem advancePwm_pending : (s.advancePwm).pending = s.pending := by unfold State.advancePwm; split <;> simp
@[simp] theorem advancePwm_ms : (s.advancePwm).ms = s.ms := by unfold State.advancePwm; split <;> simp
@[simp] theorem advancePwm_timerRun : (s.advancePwm).timerRun = s.timerRun := by unfold State.advancePwm; split <;> simp
@[simp] theorem advancePwm_clkFull : (s.advancePwm).clkFull = s.clkFull := by unfold State.advancePwm; split <;> simp
@[simp] theorem advancePwm_adcReady : (s.advancePwm).adcReady = s.adcReady := by unfold State.advancePwm; split <;> simp
@[simp] theorem advancePwm_pullSh : (s.advancePwm).pullSh = s.pullSh := by unfold State.advancePwm; split <;> simp
@[simp] theorem advancePwm_safe : (s.advancePwm).safe = s.safe := by unfold State.advancePwm; split <;> simp
@[simp] theorem advancePwm_dir : (s.advancePwm).dir = s.dir := by unfold State.advancePwm; split <;> simp
@[simp] theorem advancePwm_level : (s.advancePwm).level = s.level := by unfold State.advancePwm; split <;> simp
@[simp] theorem advancePwm_owner : (s.advancePwm).owner = s.owner := by unfold State.advancePwm; split <;> simp
@[simp] theorem advancePwm_duty : (s.advancePwm).duty = s.duty := by unfold State.advancePwm; split <;> simp
@[simp] theorem advancePwm_speed : (s.advancePwm).speed = s.speed := by unfold State.advancePwm; split <;> simp
@[simp] theorem advancePwm_transpose : (s.advancePwm).transpose = s.transpose := by unfold State.advancePwm; split <;> simp
@[simp] theorem advancePwm_synValid : (s.advancePwm).synValid = s.synValid := by unfold State.advancePwm; split <;> simp
@[simp] theorem advancePwm_res : (s.advancePwm).res = s.res := by unfold State.advancePwm; split <;> simp
@[simp] theorem advancePwm_resValid : (s.advancePwm).resValid = s.resValid := by unfold State.advancePwm; split <;> simp
@[simp] theorem advancePwm_tmask : (s.advancePwm).tmask = s.tmask := by unfold State.advancePwm; split <;> simp
@[simp] theorem advancePwm_tpend : (s.advancePwm).tpend = s.tpend := by unfold State.advancePwm; split <;> simp
@[simp] theorem advancePwm_hist : (s.advancePwm).hist = s.hist := by unfold State.advancePwm; split <;> simp
@[simp] theorem advancePwm_stream : (s.advancePwm).stream = s.stream := by unfold State.advancePwm; split <;> simp
@[simp] theorem advancePwm_ci : (s.advancePwm).ci = s.ci := by unfold State.advancePwm; split <;> simp
@[simp] theorem advancePwm_cfg : (s.advancePwm).cfg = s.cfg := by unfold State.advancePwm; split <;> simp
@[simp] theorem advancePwm_env : (s.advancePwm).env = s.env := by unfold State.advancePwm; split <;> simp
@[simp] theorem advancePwm_pwmcnt : s.advancePwm.pwmcnt = s.pwmcnt + 1 := by unfold State.advancePwm; split <;> simp

/-- Away from the boundary only the counter moves. R112. -/
theorem advancePwm_inside (h : s.pwmcnt + 1 ≠ 0) : s.advancePwm = s.countStep :=
  if_neg fun e => h (eq_of_beq e)

/-- At the boundary SUBCNT advances and a pending swap is performed. R112. -/
theorem advancePwm_boundary (h : s.pwmcnt + 1 = 0) : s.advancePwm = s.countStep.countCycle.swapBanks :=
  if_pos (beq_iff_eq.mpr h)

/-! The shared pin's arbitration (R113). -/

@[simp] theorem arbitrateSharedPin_active : (s.arbitrateSharedPin).active = s.active := by
  unfold State.arbitrateSharedPin; split <;> (try split) <;> simp
@[simp] theorem arbitrateSharedPin_pending : (s.arbitrateSharedPin).pending = s.pending := by
  unfold State.arbitrateSharedPin; split <;> (try split) <;> simp
@[simp] theorem arbitrateSharedPin_ms : (s.arbitrateSharedPin).ms = s.ms := by
  unfold State.arbitrateSharedPin; split <;> (try split) <;> simp
@[simp] theorem arbitrateSharedPin_pwmcnt : (s.arbitrateSharedPin).pwmcnt = s.pwmcnt := by
  unfold State.arbitrateSharedPin; split <;> (try split) <;> simp
@[simp] theorem arbitrateSharedPin_subcnt : (s.arbitrateSharedPin).subcnt = s.subcnt := by
  unfold State.arbitrateSharedPin; split <;> (try split) <;> simp
@[simp] theorem arbitrateSharedPin_timerRun : (s.arbitrateSharedPin).timerRun = s.timerRun := by
  unfold State.arbitrateSharedPin; split <;> (try split) <;> simp
@[simp] theorem arbitrateSharedPin_clkFull : (s.arbitrateSharedPin).clkFull = s.clkFull := by
  unfold State.arbitrateSharedPin; split <;> (try split) <;> simp
@[simp] theorem arbitrateSharedPin_adcReady : (s.arbitrateSharedPin).adcReady = s.adcReady := by
  unfold State.arbitrateSharedPin; split <;> (try split) <;> simp
@[simp] theorem arbitrateSharedPin_pullSh : (s.arbitrateSharedPin).pullSh = s.pullSh := by
  unfold State.arbitrateSharedPin; split <;> (try split) <;> simp
@[simp] theorem arbitrateSharedPin_swp : (s.arbitrateSharedPin).swp = s.swp := by
  unfold State.arbitrateSharedPin; split <;> (try split) <;> simp
@[simp] theorem arbitrateSharedPin_level : (s.arbitrateSharedPin).level = s.level := by
  unfold State.arbitrateSharedPin; split <;> (try split) <;> simp
@[simp] theorem arbitrateSharedPin_duty : (s.arbitrateSharedPin).duty = s.duty := by
  unfold State.arbitrateSharedPin; split <;> (try split) <;> simp
@[simp] theorem arbitrateSharedPin_speed : (s.arbitrateSharedPin).speed = s.speed := by
  unfold State.arbitrateSharedPin; split <;> (try split) <;> simp
@[simp] theorem arbitrateSharedPin_transpose : (s.arbitrateSharedPin).transpose = s.transpose := by
  unfold State.arbitrateSharedPin; split <;> (try split) <;> simp
@[simp] theorem arbitrateSharedPin_synValid : (s.arbitrateSharedPin).synValid = s.synValid := by
  unfold State.arbitrateSharedPin; split <;> (try split) <;> simp
@[simp] theorem arbitrateSharedPin_res : (s.arbitrateSharedPin).res = s.res := by
  unfold State.arbitrateSharedPin; split <;> (try split) <;> simp
@[simp] theorem arbitrateSharedPin_resValid : (s.arbitrateSharedPin).resValid = s.resValid := by
  unfold State.arbitrateSharedPin; split <;> (try split) <;> simp
@[simp] theorem arbitrateSharedPin_tmask : (s.arbitrateSharedPin).tmask = s.tmask := by
  unfold State.arbitrateSharedPin; split <;> (try split) <;> simp
@[simp] theorem arbitrateSharedPin_tpend : (s.arbitrateSharedPin).tpend = s.tpend := by
  unfold State.arbitrateSharedPin; split <;> (try split) <;> simp
@[simp] theorem arbitrateSharedPin_stream : (s.arbitrateSharedPin).stream = s.stream := by
  unfold State.arbitrateSharedPin; split <;> (try split) <;> simp
@[simp] theorem arbitrateSharedPin_ci : (s.arbitrateSharedPin).ci = s.ci := by
  unfold State.arbitrateSharedPin; split <;> (try split) <;> simp
@[simp] theorem arbitrateSharedPin_cfg : (s.arbitrateSharedPin).cfg = s.cfg := by
  unfold State.arbitrateSharedPin; split <;> (try split) <;> simp
@[simp] theorem arbitrateSharedPin_env : (s.arbitrateSharedPin).env = s.env := by
  unfold State.arbitrateSharedPin; split <;> (try split) <;> simp

/-! The indicator (R158, R160). -/

@[simp] theorem indicate_active (f : Nat) : (s.indicate f).active = s.active := by simp [State.indicate]
@[simp] theorem indicate_pending (f : Nat) : (s.indicate f).pending = s.pending := by simp [State.indicate]
@[simp] theorem indicate_ms (f : Nat) : (s.indicate f).ms = s.ms := by simp [State.indicate]
@[simp] theorem indicate_pwmcnt (f : Nat) : (s.indicate f).pwmcnt = s.pwmcnt := by simp [State.indicate]
@[simp] theorem indicate_subcnt (f : Nat) : (s.indicate f).subcnt = s.subcnt := by simp [State.indicate]
@[simp] theorem indicate_timerRun (f : Nat) : (s.indicate f).timerRun = s.timerRun := by simp [State.indicate]
@[simp] theorem indicate_clkFull (f : Nat) : (s.indicate f).clkFull = s.clkFull := by simp [State.indicate]
@[simp] theorem indicate_adcReady (f : Nat) : (s.indicate f).adcReady = s.adcReady := by simp [State.indicate]
@[simp] theorem indicate_pullSh (f : Nat) : (s.indicate f).pullSh = s.pullSh := by simp [State.indicate]
@[simp] theorem indicate_swp (f : Nat) : (s.indicate f).swp = s.swp := by simp [State.indicate]
@[simp] theorem indicate_safe (f : Nat) : (s.indicate f).safe = s.safe := by simp [State.indicate]
@[simp] theorem indicate_duty (f : Nat) : (s.indicate f).duty = s.duty := by simp [State.indicate]
@[simp] theorem indicate_speed (f : Nat) : (s.indicate f).speed = s.speed := by simp [State.indicate]
@[simp] theorem indicate_transpose (f : Nat) : (s.indicate f).transpose = s.transpose := by simp [State.indicate]
@[simp] theorem indicate_synValid (f : Nat) : (s.indicate f).synValid = s.synValid := by simp [State.indicate]
@[simp] theorem indicate_res (f : Nat) : (s.indicate f).res = s.res := by simp [State.indicate]
@[simp] theorem indicate_resValid (f : Nat) : (s.indicate f).resValid = s.resValid := by simp [State.indicate]
@[simp] theorem indicate_tmask (f : Nat) : (s.indicate f).tmask = s.tmask := by simp [State.indicate]
@[simp] theorem indicate_tpend (f : Nat) : (s.indicate f).tpend = s.tpend := by simp [State.indicate]
@[simp] theorem indicate_stream (f : Nat) : (s.indicate f).stream = s.stream := by simp [State.indicate]
@[simp] theorem indicate_ci (f : Nat) : (s.indicate f).ci = s.ci := by simp [State.indicate]
@[simp] theorem indicate_cfg (f : Nat) : (s.indicate f).cfg = s.cfg := by simp [State.indicate]
@[simp] theorem indicate_env (f : Nat) : (s.indicate f).env = s.env := by simp [State.indicate]
@[simp] theorem indicate_owner (f : Nat) : (s.indicate f).owner = .AIND := by simp [State.indicate]
@[simp] theorem indicate_dir (f : Nat) : (s.indicate f).dir = s.dir.set s.sharedPin.index .output := by
  simp [State.indicate]
@[simp] theorem indicateOff_active : (s.indicateOff).active = s.active := by simp [State.indicateOff]
@[simp] theorem indicateOff_pending : (s.indicateOff).pending = s.pending := by simp [State.indicateOff]
@[simp] theorem indicateOff_ms : (s.indicateOff).ms = s.ms := by simp [State.indicateOff]
@[simp] theorem indicateOff_pwmcnt : (s.indicateOff).pwmcnt = s.pwmcnt := by simp [State.indicateOff]
@[simp] theorem indicateOff_subcnt : (s.indicateOff).subcnt = s.subcnt := by simp [State.indicateOff]
@[simp] theorem indicateOff_timerRun : (s.indicateOff).timerRun = s.timerRun := by simp [State.indicateOff]
@[simp] theorem indicateOff_clkFull : (s.indicateOff).clkFull = s.clkFull := by simp [State.indicateOff]
@[simp] theorem indicateOff_adcReady : (s.indicateOff).adcReady = s.adcReady := by simp [State.indicateOff]
@[simp] theorem indicateOff_pullSh : (s.indicateOff).pullSh = s.pullSh := by simp [State.indicateOff]
@[simp] theorem indicateOff_swp : (s.indicateOff).swp = s.swp := by simp [State.indicateOff]
@[simp] theorem indicateOff_safe : (s.indicateOff).safe = s.safe := by simp [State.indicateOff]
@[simp] theorem indicateOff_dir : (s.indicateOff).dir = s.dir := by simp [State.indicateOff]
@[simp] theorem indicateOff_owner : (s.indicateOff).owner = s.owner := by simp [State.indicateOff]
@[simp] theorem indicateOff_duty : (s.indicateOff).duty = s.duty := by simp [State.indicateOff]
@[simp] theorem indicateOff_speed : (s.indicateOff).speed = s.speed := by simp [State.indicateOff]
@[simp] theorem indicateOff_transpose : (s.indicateOff).transpose = s.transpose := by simp [State.indicateOff]
@[simp] theorem indicateOff_synValid : (s.indicateOff).synValid = s.synValid := by simp [State.indicateOff]
@[simp] theorem indicateOff_res : (s.indicateOff).res = s.res := by simp [State.indicateOff]
@[simp] theorem indicateOff_resValid : (s.indicateOff).resValid = s.resValid := by simp [State.indicateOff]
@[simp] theorem indicateOff_tmask : (s.indicateOff).tmask = s.tmask := by simp [State.indicateOff]
@[simp] theorem indicateOff_tpend : (s.indicateOff).tpend = s.tpend := by simp [State.indicateOff]
@[simp] theorem indicateOff_stream : (s.indicateOff).stream = s.stream := by simp [State.indicateOff]
@[simp] theorem indicateOff_ci : (s.indicateOff).ci = s.ci := by simp [State.indicateOff]
@[simp] theorem indicateOff_cfg : (s.indicateOff).cfg = s.cfg := by simp [State.indicateOff]
@[simp] theorem indicateOff_env : (s.indicateOff).env = s.env := by simp [State.indicateOff]

/-! The hand-over to the microphone (R130). -/

@[simp] theorem micHandover_active : (s.micHandover).active = s.active := by simp [State.micHandover]
@[simp] theorem micHandover_pending : (s.micHandover).pending = s.pending := by simp [State.micHandover]
@[simp] theorem micHandover_pwmcnt : (s.micHandover).pwmcnt = s.pwmcnt := by simp [State.micHandover]
@[simp] theorem micHandover_subcnt : (s.micHandover).subcnt = s.subcnt := by simp [State.micHandover]
@[simp] theorem micHandover_timerRun : (s.micHandover).timerRun = s.timerRun := by simp [State.micHandover]
@[simp] theorem micHandover_clkFull : (s.micHandover).clkFull = s.clkFull := by simp [State.micHandover]
@[simp] theorem micHandover_swp : (s.micHandover).swp = s.swp := by simp [State.micHandover]
@[simp] theorem micHandover_safe : (s.micHandover).safe = s.safe := by simp [State.micHandover]
@[simp] theorem micHandover_level : (s.micHandover).level = s.level := by simp [State.micHandover]
@[simp] theorem micHandover_duty : (s.micHandover).duty = s.duty := by simp [State.micHandover]
@[simp] theorem micHandover_speed : (s.micHandover).speed = s.speed := by simp [State.micHandover]
@[simp] theorem micHandover_transpose : (s.micHandover).transpose = s.transpose := by simp [State.micHandover]
@[simp] theorem micHandover_synValid : (s.micHandover).synValid = s.synValid := by simp [State.micHandover]
@[simp] theorem micHandover_res : (s.micHandover).res = s.res := by simp [State.micHandover]
@[simp] theorem micHandover_resValid : (s.micHandover).resValid = s.resValid := by simp [State.micHandover]
@[simp] theorem micHandover_tmask : (s.micHandover).tmask = s.tmask := by simp [State.micHandover]
@[simp] theorem micHandover_stream : (s.micHandover).stream = s.stream := by simp [State.micHandover]
@[simp] theorem micHandover_ci : (s.micHandover).ci = s.ci := by simp [State.micHandover]
@[simp] theorem micHandover_cfg : (s.micHandover).cfg = s.cfg := by simp [State.micHandover]
@[simp] theorem micHandover_owner : s.micHandover.owner = .MIC := by simp [State.micHandover]
@[simp] theorem micHandover_pullSh : s.micHandover.pullSh = false := by simp [State.micHandover]
@[simp] theorem micHandover_adcReady : s.micHandover.adcReady = true := by simp [State.micHandover]
@[simp] theorem micHandover_dir : s.micHandover.dir = s.dir.set s.sharedPin.index .input := by simp [State.micHandover]

/-! The wave (R150). -/

@[simp] theorem waveCycle_active (high low : Nat) : (s.waveCycle high low).active = s.active := by simp [State.waveCycle]
@[simp] theorem waveCycle_pending (high low : Nat) : (s.waveCycle high low).pending = s.pending := by simp [State.waveCycle]
@[simp] theorem waveCycle_pwmcnt (high low : Nat) : (s.waveCycle high low).pwmcnt = s.pwmcnt := by simp [State.waveCycle]
@[simp] theorem waveCycle_subcnt (high low : Nat) : (s.waveCycle high low).subcnt = s.subcnt := by simp [State.waveCycle]
@[simp] theorem waveCycle_timerRun (high low : Nat) : (s.waveCycle high low).timerRun = s.timerRun := by simp [State.waveCycle]
@[simp] theorem waveCycle_clkFull (high low : Nat) : (s.waveCycle high low).clkFull = s.clkFull := by simp [State.waveCycle]
@[simp] theorem waveCycle_adcReady (high low : Nat) : (s.waveCycle high low).adcReady = s.adcReady := by simp [State.waveCycle]
@[simp] theorem waveCycle_pullSh (high low : Nat) : (s.waveCycle high low).pullSh = s.pullSh := by simp [State.waveCycle]
@[simp] theorem waveCycle_swp (high low : Nat) : (s.waveCycle high low).swp = s.swp := by simp [State.waveCycle]
@[simp] theorem waveCycle_safe (high low : Nat) : (s.waveCycle high low).safe = s.safe := by simp [State.waveCycle]
@[simp] theorem waveCycle_dir (high low : Nat) : (s.waveCycle high low).dir = s.dir := by simp [State.waveCycle]
@[simp] theorem waveCycle_owner (high low : Nat) : (s.waveCycle high low).owner = s.owner := by simp [State.waveCycle]
@[simp] theorem waveCycle_duty (high low : Nat) : (s.waveCycle high low).duty = s.duty := by simp [State.waveCycle]
@[simp] theorem waveCycle_speed (high low : Nat) : (s.waveCycle high low).speed = s.speed := by simp [State.waveCycle]
@[simp] theorem waveCycle_transpose (high low : Nat) : (s.waveCycle high low).transpose = s.transpose := by simp [State.waveCycle]
@[simp] theorem waveCycle_synValid (high low : Nat) : (s.waveCycle high low).synValid = s.synValid := by simp [State.waveCycle]
@[simp] theorem waveCycle_res (high low : Nat) : (s.waveCycle high low).res = s.res := by simp [State.waveCycle]
@[simp] theorem waveCycle_resValid (high low : Nat) : (s.waveCycle high low).resValid = s.resValid := by simp [State.waveCycle]
@[simp] theorem waveCycle_tmask (high low : Nat) : (s.waveCycle high low).tmask = s.tmask := by simp [State.waveCycle]
@[simp] theorem waveCycle_stream (high low : Nat) : (s.waveCycle high low).stream = s.stream := by simp [State.waveCycle]
@[simp] theorem waveCycle_ci (high low : Nat) : (s.waveCycle high low).ci = s.ci := by simp [State.waveCycle]
@[simp] theorem waveCycle_cfg (high low : Nat) : (s.waveCycle high low).cfg = s.cfg := by simp [State.waveCycle]
@[simp] theorem wave_active (high low k : Nat) : (s.wave high low k).active = s.active := by
  induction k generalizing s with
  | zero => rfl
  | succ k ih => simp [State.wave, ih]
@[simp] theorem wave_pending (high low k : Nat) : (s.wave high low k).pending = s.pending := by
  induction k generalizing s with
  | zero => rfl
  | succ k ih => simp [State.wave, ih]
@[simp] theorem wave_pwmcnt (high low k : Nat) : (s.wave high low k).pwmcnt = s.pwmcnt := by
  induction k generalizing s with
  | zero => rfl
  | succ k ih => simp [State.wave, ih]
@[simp] theorem wave_subcnt (high low k : Nat) : (s.wave high low k).subcnt = s.subcnt := by
  induction k generalizing s with
  | zero => rfl
  | succ k ih => simp [State.wave, ih]
@[simp] theorem wave_timerRun (high low k : Nat) : (s.wave high low k).timerRun = s.timerRun := by
  induction k generalizing s with
  | zero => rfl
  | succ k ih => simp [State.wave, ih]
@[simp] theorem wave_clkFull (high low k : Nat) : (s.wave high low k).clkFull = s.clkFull := by
  induction k generalizing s with
  | zero => rfl
  | succ k ih => simp [State.wave, ih]
@[simp] theorem wave_adcReady (high low k : Nat) : (s.wave high low k).adcReady = s.adcReady := by
  induction k generalizing s with
  | zero => rfl
  | succ k ih => simp [State.wave, ih]
@[simp] theorem wave_pullSh (high low k : Nat) : (s.wave high low k).pullSh = s.pullSh := by
  induction k generalizing s with
  | zero => rfl
  | succ k ih => simp [State.wave, ih]
@[simp] theorem wave_swp (high low k : Nat) : (s.wave high low k).swp = s.swp := by
  induction k generalizing s with
  | zero => rfl
  | succ k ih => simp [State.wave, ih]
@[simp] theorem wave_safe (high low k : Nat) : (s.wave high low k).safe = s.safe := by
  induction k generalizing s with
  | zero => rfl
  | succ k ih => simp [State.wave, ih]
@[simp] theorem wave_dir (high low k : Nat) : (s.wave high low k).dir = s.dir := by
  induction k generalizing s with
  | zero => rfl
  | succ k ih => simp [State.wave, ih]
@[simp] theorem wave_owner (high low k : Nat) : (s.wave high low k).owner = s.owner := by
  induction k generalizing s with
  | zero => rfl
  | succ k ih => simp [State.wave, ih]
@[simp] theorem wave_duty (high low k : Nat) : (s.wave high low k).duty = s.duty := by
  induction k generalizing s with
  | zero => rfl
  | succ k ih => simp [State.wave, ih]
@[simp] theorem wave_speed (high low k : Nat) : (s.wave high low k).speed = s.speed := by
  induction k generalizing s with
  | zero => rfl
  | succ k ih => simp [State.wave, ih]
@[simp] theorem wave_transpose (high low k : Nat) : (s.wave high low k).transpose = s.transpose := by
  induction k generalizing s with
  | zero => rfl
  | succ k ih => simp [State.wave, ih]
@[simp] theorem wave_synValid (high low k : Nat) : (s.wave high low k).synValid = s.synValid := by
  induction k generalizing s with
  | zero => rfl
  | succ k ih => simp [State.wave, ih]
@[simp] theorem wave_res (high low k : Nat) : (s.wave high low k).res = s.res := by
  induction k generalizing s with
  | zero => rfl
  | succ k ih => simp [State.wave, ih]
@[simp] theorem wave_resValid (high low k : Nat) : (s.wave high low k).resValid = s.resValid := by
  induction k generalizing s with
  | zero => rfl
  | succ k ih => simp [State.wave, ih]
@[simp] theorem wave_tmask (high low k : Nat) : (s.wave high low k).tmask = s.tmask := by
  induction k generalizing s with
  | zero => rfl
  | succ k ih => simp [State.wave, ih]
@[simp] theorem wave_stream (high low k : Nat) : (s.wave high low k).stream = s.stream := by
  induction k generalizing s with
  | zero => rfl
  | succ k ih => simp [State.wave, ih]
@[simp] theorem wave_ci (high low k : Nat) : (s.wave high low k).ci = s.ci := by
  induction k generalizing s with
  | zero => rfl
  | succ k ih => simp [State.wave, ih]
@[simp] theorem wave_cfg (high low k : Nat) : (s.wave high low k).cfg = s.cfg := by
  induction k generalizing s with
  | zero => rfl
  | succ k ih => simp [State.wave, ih]
@[simp] theorem playTone_active (f d duty : Nat) : (s.playTone f d duty).active = s.active := by unfold State.playTone; split <;> simp
@[simp] theorem playTone_pending (f d duty : Nat) : (s.playTone f d duty).pending = s.pending := by unfold State.playTone; split <;> simp
@[simp] theorem playTone_pwmcnt (f d duty : Nat) : (s.playTone f d duty).pwmcnt = s.pwmcnt := by unfold State.playTone; split <;> simp
@[simp] theorem playTone_subcnt (f d duty : Nat) : (s.playTone f d duty).subcnt = s.subcnt := by unfold State.playTone; split <;> simp
@[simp] theorem playTone_timerRun (f d duty : Nat) : (s.playTone f d duty).timerRun = s.timerRun := by unfold State.playTone; split <;> simp
@[simp] theorem playTone_clkFull (f d duty : Nat) : (s.playTone f d duty).clkFull = s.clkFull := by unfold State.playTone; split <;> simp
@[simp] theorem playTone_adcReady (f d duty : Nat) : (s.playTone f d duty).adcReady = s.adcReady := by unfold State.playTone; split <;> simp
@[simp] theorem playTone_pullSh (f d duty : Nat) : (s.playTone f d duty).pullSh = s.pullSh := by unfold State.playTone; split <;> simp
@[simp] theorem playTone_swp (f d duty : Nat) : (s.playTone f d duty).swp = s.swp := by unfold State.playTone; split <;> simp
@[simp] theorem playTone_safe (f d duty : Nat) : (s.playTone f d duty).safe = s.safe := by unfold State.playTone; split <;> simp
@[simp] theorem playTone_dir (f d duty : Nat) : (s.playTone f d duty).dir = s.dir := by unfold State.playTone; split <;> simp
@[simp] theorem playTone_owner (f d duty : Nat) : (s.playTone f d duty).owner = s.owner := by unfold State.playTone; split <;> simp
@[simp] theorem playTone_duty (f d duty : Nat) : (s.playTone f d duty).duty = s.duty := by unfold State.playTone; split <;> simp
@[simp] theorem playTone_speed (f d duty : Nat) : (s.playTone f d duty).speed = s.speed := by unfold State.playTone; split <;> simp
@[simp] theorem playTone_transpose (f d duty : Nat) : (s.playTone f d duty).transpose = s.transpose := by unfold State.playTone; split <;> simp
@[simp] theorem playTone_synValid (f d duty : Nat) : (s.playTone f d duty).synValid = s.synValid := by unfold State.playTone; split <;> simp
@[simp] theorem playTone_res (f d duty : Nat) : (s.playTone f d duty).res = s.res := by unfold State.playTone; split <;> simp
@[simp] theorem playTone_resValid (f d duty : Nat) : (s.playTone f d duty).resValid = s.resValid := by unfold State.playTone; split <;> simp
@[simp] theorem playTone_tmask (f d duty : Nat) : (s.playTone f d duty).tmask = s.tmask := by unfold State.playTone; split <;> simp
@[simp] theorem playTone_stream (f d duty : Nat) : (s.playTone f d duty).stream = s.stream := by unfold State.playTone; split <;> simp
@[simp] theorem playTone_ci (f d duty : Nat) : (s.playTone f d duty).ci = s.ci := by unfold State.playTone; split <;> simp
@[simp] theorem playTone_cfg (f d duty : Nat) : (s.playTone f d duty).cfg = s.cfg := by unfold State.playTone; split <;> simp

/-! One read and the reads of a mean (R133, R137). -/

@[simp] theorem readOne_active : (s.readOne.1).active = s.active := by unfold State.readOne; split <;> simp
@[simp] theorem readOne_pending : (s.readOne.1).pending = s.pending := by unfold State.readOne; split <;> simp
@[simp] theorem readOne_pwmcnt : (s.readOne.1).pwmcnt = s.pwmcnt := by unfold State.readOne; split <;> simp
@[simp] theorem readOne_subcnt : (s.readOne.1).subcnt = s.subcnt := by unfold State.readOne; split <;> simp
@[simp] theorem readOne_timerRun : (s.readOne.1).timerRun = s.timerRun := by unfold State.readOne; split <;> simp
@[simp] theorem readOne_clkFull : (s.readOne.1).clkFull = s.clkFull := by unfold State.readOne; split <;> simp
@[simp] theorem readOne_adcReady : (s.readOne.1).adcReady = s.adcReady := by unfold State.readOne; split <;> simp
@[simp] theorem readOne_pullSh : (s.readOne.1).pullSh = s.pullSh := by unfold State.readOne; split <;> simp
@[simp] theorem readOne_swp : (s.readOne.1).swp = s.swp := by unfold State.readOne; split <;> simp
@[simp] theorem readOne_dir : (s.readOne.1).dir = s.dir := by unfold State.readOne; split <;> simp
@[simp] theorem readOne_level : (s.readOne.1).level = s.level := by unfold State.readOne; split <;> simp
@[simp] theorem readOne_owner : (s.readOne.1).owner = s.owner := by unfold State.readOne; split <;> simp
@[simp] theorem readOne_duty : (s.readOne.1).duty = s.duty := by unfold State.readOne; split <;> simp
@[simp] theorem readOne_speed : (s.readOne.1).speed = s.speed := by unfold State.readOne; split <;> simp
@[simp] theorem readOne_transpose : (s.readOne.1).transpose = s.transpose := by unfold State.readOne; split <;> simp
@[simp] theorem readOne_synValid : (s.readOne.1).synValid = s.synValid := by unfold State.readOne; split <;> simp
@[simp] theorem readOne_res : (s.readOne.1).res = s.res := by unfold State.readOne; split <;> simp
@[simp] theorem readOne_resValid : (s.readOne.1).resValid = s.resValid := by unfold State.readOne; split <;> simp
@[simp] theorem readOne_tmask : (s.readOne.1).tmask = s.tmask := by unfold State.readOne; split <;> simp
@[simp] theorem readOne_stream : (s.readOne.1).stream = s.stream := by unfold State.readOne; split <;> simp
@[simp] theorem readOne_ci : (s.readOne.1).ci = s.ci := by unfold State.readOne; split <;> simp
@[simp] theorem readOne_cfg : (s.readOne.1).cfg = s.cfg := by unfold State.readOne; split <;> simp
@[simp] theorem readOne_safe : s.readOne.1.safe = false := by unfold State.readOne; split <;> simp
@[simp] theorem readOne_value : s.readOne.2 = s.nextSample := by unfold State.readOne; split <;> simp
@[simp] theorem readMany_active (sum n : Nat) : ((s.readMany sum n).1).active = s.active := by
  induction n using Nat.strongRecOn generalizing s sum with
  | _ n ih =>
    match n with
    | 0 => rfl
    | 1 => simp [State.readMany]
    | n + 2 => simp [State.readMany, ih (n + 1) (by omega)]
@[simp] theorem readMany_pending (sum n : Nat) : ((s.readMany sum n).1).pending = s.pending := by
  induction n using Nat.strongRecOn generalizing s sum with
  | _ n ih =>
    match n with
    | 0 => rfl
    | 1 => simp [State.readMany]
    | n + 2 => simp [State.readMany, ih (n + 1) (by omega)]
@[simp] theorem readMany_pwmcnt (sum n : Nat) : ((s.readMany sum n).1).pwmcnt = s.pwmcnt := by
  induction n using Nat.strongRecOn generalizing s sum with
  | _ n ih =>
    match n with
    | 0 => rfl
    | 1 => simp [State.readMany]
    | n + 2 => simp [State.readMany, ih (n + 1) (by omega)]
@[simp] theorem readMany_subcnt (sum n : Nat) : ((s.readMany sum n).1).subcnt = s.subcnt := by
  induction n using Nat.strongRecOn generalizing s sum with
  | _ n ih =>
    match n with
    | 0 => rfl
    | 1 => simp [State.readMany]
    | n + 2 => simp [State.readMany, ih (n + 1) (by omega)]
@[simp] theorem readMany_timerRun (sum n : Nat) : ((s.readMany sum n).1).timerRun = s.timerRun := by
  induction n using Nat.strongRecOn generalizing s sum with
  | _ n ih =>
    match n with
    | 0 => rfl
    | 1 => simp [State.readMany]
    | n + 2 => simp [State.readMany, ih (n + 1) (by omega)]
@[simp] theorem readMany_clkFull (sum n : Nat) : ((s.readMany sum n).1).clkFull = s.clkFull := by
  induction n using Nat.strongRecOn generalizing s sum with
  | _ n ih =>
    match n with
    | 0 => rfl
    | 1 => simp [State.readMany]
    | n + 2 => simp [State.readMany, ih (n + 1) (by omega)]
@[simp] theorem readMany_adcReady (sum n : Nat) : ((s.readMany sum n).1).adcReady = s.adcReady := by
  induction n using Nat.strongRecOn generalizing s sum with
  | _ n ih =>
    match n with
    | 0 => rfl
    | 1 => simp [State.readMany]
    | n + 2 => simp [State.readMany, ih (n + 1) (by omega)]
@[simp] theorem readMany_pullSh (sum n : Nat) : ((s.readMany sum n).1).pullSh = s.pullSh := by
  induction n using Nat.strongRecOn generalizing s sum with
  | _ n ih =>
    match n with
    | 0 => rfl
    | 1 => simp [State.readMany]
    | n + 2 => simp [State.readMany, ih (n + 1) (by omega)]
@[simp] theorem readMany_swp (sum n : Nat) : ((s.readMany sum n).1).swp = s.swp := by
  induction n using Nat.strongRecOn generalizing s sum with
  | _ n ih =>
    match n with
    | 0 => rfl
    | 1 => simp [State.readMany]
    | n + 2 => simp [State.readMany, ih (n + 1) (by omega)]
@[simp] theorem readMany_dir (sum n : Nat) : ((s.readMany sum n).1).dir = s.dir := by
  induction n using Nat.strongRecOn generalizing s sum with
  | _ n ih =>
    match n with
    | 0 => rfl
    | 1 => simp [State.readMany]
    | n + 2 => simp [State.readMany, ih (n + 1) (by omega)]
@[simp] theorem readMany_level (sum n : Nat) : ((s.readMany sum n).1).level = s.level := by
  induction n using Nat.strongRecOn generalizing s sum with
  | _ n ih =>
    match n with
    | 0 => rfl
    | 1 => simp [State.readMany]
    | n + 2 => simp [State.readMany, ih (n + 1) (by omega)]
@[simp] theorem readMany_owner (sum n : Nat) : ((s.readMany sum n).1).owner = s.owner := by
  induction n using Nat.strongRecOn generalizing s sum with
  | _ n ih =>
    match n with
    | 0 => rfl
    | 1 => simp [State.readMany]
    | n + 2 => simp [State.readMany, ih (n + 1) (by omega)]
@[simp] theorem readMany_duty (sum n : Nat) : ((s.readMany sum n).1).duty = s.duty := by
  induction n using Nat.strongRecOn generalizing s sum with
  | _ n ih =>
    match n with
    | 0 => rfl
    | 1 => simp [State.readMany]
    | n + 2 => simp [State.readMany, ih (n + 1) (by omega)]
@[simp] theorem readMany_speed (sum n : Nat) : ((s.readMany sum n).1).speed = s.speed := by
  induction n using Nat.strongRecOn generalizing s sum with
  | _ n ih =>
    match n with
    | 0 => rfl
    | 1 => simp [State.readMany]
    | n + 2 => simp [State.readMany, ih (n + 1) (by omega)]
@[simp] theorem readMany_transpose (sum n : Nat) : ((s.readMany sum n).1).transpose = s.transpose := by
  induction n using Nat.strongRecOn generalizing s sum with
  | _ n ih =>
    match n with
    | 0 => rfl
    | 1 => simp [State.readMany]
    | n + 2 => simp [State.readMany, ih (n + 1) (by omega)]
@[simp] theorem readMany_synValid (sum n : Nat) : ((s.readMany sum n).1).synValid = s.synValid := by
  induction n using Nat.strongRecOn generalizing s sum with
  | _ n ih =>
    match n with
    | 0 => rfl
    | 1 => simp [State.readMany]
    | n + 2 => simp [State.readMany, ih (n + 1) (by omega)]
@[simp] theorem readMany_res (sum n : Nat) : ((s.readMany sum n).1).res = s.res := by
  induction n using Nat.strongRecOn generalizing s sum with
  | _ n ih =>
    match n with
    | 0 => rfl
    | 1 => simp [State.readMany]
    | n + 2 => simp [State.readMany, ih (n + 1) (by omega)]
@[simp] theorem readMany_resValid (sum n : Nat) : ((s.readMany sum n).1).resValid = s.resValid := by
  induction n using Nat.strongRecOn generalizing s sum with
  | _ n ih =>
    match n with
    | 0 => rfl
    | 1 => simp [State.readMany]
    | n + 2 => simp [State.readMany, ih (n + 1) (by omega)]
@[simp] theorem readMany_tmask (sum n : Nat) : ((s.readMany sum n).1).tmask = s.tmask := by
  induction n using Nat.strongRecOn generalizing s sum with
  | _ n ih =>
    match n with
    | 0 => rfl
    | 1 => simp [State.readMany]
    | n + 2 => simp [State.readMany, ih (n + 1) (by omega)]
@[simp] theorem readMany_stream (sum n : Nat) : ((s.readMany sum n).1).stream = s.stream := by
  induction n using Nat.strongRecOn generalizing s sum with
  | _ n ih =>
    match n with
    | 0 => rfl
    | 1 => simp [State.readMany]
    | n + 2 => simp [State.readMany, ih (n + 1) (by omega)]
@[simp] theorem readMany_ci (sum n : Nat) : ((s.readMany sum n).1).ci = s.ci := by
  induction n using Nat.strongRecOn generalizing s sum with
  | _ n ih =>
    match n with
    | 0 => rfl
    | 1 => simp [State.readMany]
    | n + 2 => simp [State.readMany, ih (n + 1) (by omega)]
@[simp] theorem readMany_cfg (sum n : Nat) : ((s.readMany sum n).1).cfg = s.cfg := by
  induction n using Nat.strongRecOn generalizing s sum with
  | _ n ih =>
    match n with
    | 0 => rfl
    | 1 => simp [State.readMany]
    | n + 2 => simp [State.readMany, ih (n + 1) (by omega)]

end Sys2Proof.Machine
end

