-- ==== Sys2Proof/Laws/History.lean ====
section
/-! SUPPORT. What each shared operation adds to the history, with the Tick events left out (`quiet`), and what it does to the
environment's answers: said once per operation. -/

namespace Sys2Proof.Machine

/-! The history without Tick events -/

/-- `quiet` goes through concatenation. -/
theorem quiet_append (a b : List Event) : quiet (a ++ b) = quiet a ++ quiet b := by simp [quiet]

/-- A due tick adds nothing but Tick events. R187. -/
theorem tickDue_quiet (s : State) : quiet s.tickDue.hist = quiet s.hist := by
  unfold State.tickDue; split
  · split
    · rfl
    · simp [quiet]
  · rfl

/-- So do several. -/
theorem ticksDue_quiet (s : State) (k) : quiet (s.ticksDue k).hist = quiet s.hist := by
  induction k generalizing s with
  | zero => rfl
  | succ k ih => simp [State.ticksDue, ih, tickDue_quiet]

/-- So does a tick point. R70. -/
theorem tickPoint_quiet (s : State) : quiet s.tickPoint.hist = quiet s.hist := by
  unfold State.tickPoint; split
  · simp [ticksDue_quiet]
  · rfl

/-- `Delay(us)` adds `Wait(us)`. R14. -/
theorem delay_quiet (s : State) (us) : quiet (s.delay us).hist = quiet s.hist ++ [.wait us] := by
  rw [State.delay, tickPoint_quiet, emit_hist, quiet_append]; rfl

/-- One cycle of the wave. R150. -/
theorem waveCycle_quiet (s : State) (h l) :
    quiet (s.waveCycle h l).hist = quiet s.hist ++ [.level .buzz true, .wait h, .level .buzz false, .wait l] := by
  simp [State.waveCycle, delay_quiet, quiet_append, setLevel_hist]; simp [quiet]

/-- The whole wave. R150. -/
theorem wave_quiet (s : State) (h l n) : quiet (s.wave h l n).hist = quiet s.hist ++ waveEvents h l n := by
  induction n generalizing s with
  | zero => simp [State.wave, waveEvents]
  | succ n ih => simp [State.wave, ih, waveCycle_quiet, waveEvents, List.replicate_succ]

/-- `PlayTone`: a rest or a wave. R150. -/
theorem playTone_quiet (s : State) (f d u) :
    quiet (s.playTone f d u).hist = quiet s.hist ++
      if f = 0 then [.wait (d * 1000)] else waveEvents (toneHigh f u) (toneLow f u) (toneCycles f d) := by
  unfold State.playTone; split
  · rw [delay_quiet]
  · rw [wave_quiet]

/-- The four level writes as `ledEvents`. R112. -/
theorem writeLeds_hist_ledEvents (s : State) (f) : (s.writeLeds f).hist = s.hist ++ ledEvents f := by simp [ledEvents]

/-- `Indicate`. R158. -/
theorem indicate_hist_ledEvents (s : State) (f) :
    (s.indicate f).hist = s.hist ++ .dir s.sharedPin .output :: ledEvents (indicatorLit s.cfg f) := by
  simp [State.indicate, ledEvents]

/-- `IndicateOff`. R160. -/
theorem indicateOff_hist_ledEvents (s : State) :
    s.indicateOff.hist = s.hist ++ ledEvents fun _ => false := by simp [State.indicateOff, ledEvents]

/-- Level events are no Tick events. -/
theorem quiet_ledEvents (f) : quiet (ledEvents f) = ledEvents f := by simp [quiet, ledEvents]

/-- `Indicate`, quietly. R158. -/
theorem indicate_quiet (s : State) (f) :
    quiet (s.indicate f).hist = quiet s.hist ++ .dir s.sharedPin .output :: ledEvents (indicatorLit s.cfg f) := by
  rw [indicate_hist_ledEvents, quiet_append]; rfl

/-- `IndicateOff`, quietly. R160. -/
theorem indicateOff_quiet (s : State) : quiet s.indicateOff.hist = quiet s.hist ++ ledEvents fun _ => false := by
  rw [indicateOff_hist_ledEvents, quiet_append]; rfl

/-- The hand-over to the microphone. R130. -/
theorem micHandover_quiet (s : State) :
    quiet s.micHandover.hist = quiet s.hist ++ [.dir s.sharedPin .input, .wait s.cfg.micSettleUs] := by
  rw [State.micHandover, delay_quiet]; simp [quiet]

/-! The environment's answers -/

/-- The next answer is draw 0. -/
theorem draw_nextSample (s : State) : s.nextSample = s.draw 0 := by
  cases h : s.env.samples <;> simp [State.nextSample, State.draw, h]

/-- Draws depend on the environment's answers alone. -/
theorem draw_congr {s t : State} (h1 : t.env.samples = s.env.samples) (h2 : t.env.sampleNo = s.env.sampleNo) (k) :
    t.draw k = s.draw k := by
  simp [State.draw, h1, h2]

/-- An event leaves the draws. -/
theorem draw_emit (s : State) (e k) : (s.emit e).draw k = s.draw k := rfl

/-- A result leaves the draws. -/
theorem draw_returnValue (s : State) (e k) : (s.returnValue e).draw k = s.draw k := rfl

/-- Taking an answer shifts the draws by one. -/
theorem draw_takeSample (s : State) (k) : s.takeSample.draw k = s.draw (k + 1) := by
  simp [State.draw, Nat.add_comm 1 k, Nat.add_assoc]

/-- A delay takes no answer. R14. -/
theorem delay_draw (s : State) (us k) : (s.delay us).draw k = s.draw k := draw_congr (by simp) (by simp) k

/-- One read's events. R133. -/
theorem readOne_quiet (s : State) :
    quiet s.readOne.1.hist = quiet s.hist ++ (if s.safe then [] else [.wait s.cfg.micWaitUs]) ++
      [.wait s.cfg.adcConvUs, .sample (s.draw 0) s.safe (s.dirOf s.sharedPin)] := by
  unfold State.readOne
  have hd : ∀ t : State, t.dir = s.dir → t.cfg = s.cfg → t.dirOf t.sharedPin = s.dirOf s.sharedPin := by
    intro t h h'; simp [State.sharedPin, h', dirOf_congr h]
  simp only [emit_hist, takeSample_hist, quiet_append, delay_quiet, dropSafe_hist]
  rw [hd _ (by split <;> simp) (by split <;> simp)]
  rw [draw_nextSample, draw_congr (s := s) (by split <;> simp) (by split <;> simp)]
  split <;> simp [delay_quiet] <;> rfl

/-- One read takes one answer. R133. -/
theorem readOne_draw (s : State) (k) : s.readOne.1.draw k = s.draw (k + 1) := by
  change (State.emit _ _).draw k = _
  rw [draw_emit, draw_takeSample]
  exact draw_congr (by split <;> simp) (by split <;> simp) _

/-- The sum of the next `n + 1` draws from the next `n` of the state after one. -/
theorem drawSum_succ (s t : State) (h : ∀ k, t.draw k = s.draw (k+1)) (n) :
    s.drawSum (n+1) = (s.draw 0).toNat + t.drawSum n := by
  simp [State.drawSum, List.range_succ_eq_map, h, Function.comp_def]

/-- The sum and the draws taken by R137's loop. -/
theorem readMany_sum (s : State) (sum n) :
    (s.readMany sum n).2 = sum + s.drawSum n ∧ ∀ k, (s.readMany sum n).1.draw k = s.draw (k + n) := by
  induction n using Nat.strongRecOn generalizing s sum with
  | _ n ih =>
    match n with
    | 0 => simp [State.readMany, State.drawSum]
    | 1 => simp [State.readMany, State.drawSum, readOne_draw, draw_nextSample]
    | n + 2 =>
      obtain ⟨a, b⟩ := ih (n+1) (by omega) (s.readOne.1.delay s.cfg.micFilterDelayUs) (sum + s.readOne.2.toNat)
      simp only [State.readMany]
      refine ⟨?_, fun k => ?_⟩
      · rw [a, drawSum_succ s (s.readOne.1.delay s.cfg.micFilterDelayUs) (fun k => by rw [delay_draw, readOne_draw]) (n+1)]
        simp [draw_nextSample]; omega
      · rw [b, delay_draw, readOne_draw]; congr 1

/-- SAFE is consumed by R137's loop. -/
theorem readMany_safe (s : State) (sum n) (h : 1 ≤ n) : (s.readMany sum n).1.safe = false := by
  induction n using Nat.strongRecOn generalizing s sum with
  | _ n ih =>
    match n with
    | 0 => omega
    | 1 => simp [State.readMany]
    | n + 2 => simp [State.readMany, ih (n + 1) (by omega)]

/-! Requested delays (R230) -/

/-- Requested delays add up. -/
theorem requestedUs_append (a b : List Event) : requestedUs (a ++ b) = requestedUs a + requestedUs b := by
  unfold requestedUs
  rw [List.foldl_append]
  generalize List.foldl _ 0 a = m
  induction b generalizing m with
  | nil => rfl
  | cons e l ih =>
    simp only [List.foldl_cons]
    rw [ih]
    conv_rhs => rw [ih]
    cases e <;> simp <;> omega

/-- Tick events request nothing. -/
theorem requestedUs_quiet (h : List Event) : requestedUs h = requestedUs (quiet h) := by
  induction h with
  | nil => rfl
  | cons e h ih =>
    rw [← List.singleton_append, requestedUs_append, quiet_append, requestedUs_append, ih]
    cases e <;> simp [quiet, requestedUs]

/-- A delay requests its argument. -/
theorem requestedUs_delay (s : State) (us) : requestedUs (s.delay us).hist = requestedUs s.hist + us := by
  rw [requestedUs_quiet, delay_quiet, requestedUs_append, ← requestedUs_quiet]; simp [requestedUs]

end Sys2Proof.Machine
end

