-- ==== Sys2Proof/Laws/Pins.lean ====
section
/-! SUPPORT. What each shared operation does to directions and levels, pin by pin (R14, R34, R35). -/

namespace Sys2Proof.Machine

/-- The swap. R112. -/
theorem swapBanks_active (s : State) : s.swapBanks.active = if s.swp then s.pending else s.active := by
  unfold State.swapBanks; split <;> simp_all

/-- SWP is clear after the boundary's swap. R112. -/
theorem swapBanks_swp (s : State) : s.swapBanks.swp = false := by
  unfold State.swapBanks; split <;> simp_all

/-- Level writes leave the phases. -/
theorem onPhase_writeLeds (s : State) (f c) : (s.writeLeds f).onPhase c = s.onPhase c := by simp [State.onPhase]

/-- The shared pin is fixed by the parameters. R33. -/
theorem sharedPin_congr {s t : State} (h : t.cfg = s.cfg) : t.sharedPin = s.sharedPin := by simp [State.sharedPin, h]

/-- The shared pin's direction depends on DIR and the parameters alone. -/
theorem dirOf_sharedPin_congr {s t : State} (h : t.dir = s.dir) (h' : t.cfg = s.cfg) :
    t.dirOf t.sharedPin = s.dirOf s.sharedPin := by
    simp [State.sharedPin, h', dirOf_congr h]

/-- The hand-over makes the shared pin an input. R130. -/
theorem dirOf_micHandover (s : State) (p) : s.micHandover.dirOf p = if p = s.sharedPin then .input else s.dirOf p := by
  rw [dirOf_congr (t := s.setDir s.sharedPin .input) (by simp), dirOf_setDir]

/-- `Indicate` makes the shared pin an output. R158. -/
theorem dirOf_indicate (s : State) (f p) : (s.indicate f).dirOf p = if p = s.sharedPin then .output else s.dirOf p := by
  rw [dirOf_congr (t := s.setDir s.sharedPin .output) (by simp), dirOf_setDir]

/-- `Indicate` writes the LED levels. R158. -/
theorem levelOf_indicate_led (s : State) (f c) :
    (s.indicate f).levelOf (.led c) = indicatorLit s.cfg f c := by simp [State.indicate]

/-- `Indicate` leaves BUZZ. R158. -/
theorem levelOf_indicate_buzz (s : State) (f) :
    (s.indicate f).levelOf .buzz = s.levelOf .buzz := by rw [State.indicate, levelOf_writeLeds_buzz]; rfl

/-- `IndicateOff` leaves BUZZ. R160. -/
theorem levelOf_indicateOff_buzz (s : State) :
    (s.indicateOff).levelOf .buzz = s.levelOf .buzz := by rw [State.indicateOff, levelOf_writeLeds_buzz]

/-- The wave leaves the LED levels. R150. -/
theorem levelOf_wave_led (s : State) (h l n c) : (s.wave h l n).levelOf (.led c) = s.levelOf (.led c) := by
  induction n generalizing s with
  | zero => rfl
  | succ n ih =>
    rw [State.wave, ih, State.waveCycle, levelOf_congr (t := ((s.setLevel .buzz true).delay h).setLevel .buzz false) (by simp), levelOf_setLevel, if_neg (by simp), levelOf_congr (t := s.setLevel .buzz true) (by simp), levelOf_setLevel, if_neg (by simp)]

/-- The wave ends low, if it has a cycle. R150. -/
theorem levelOf_wave_buzz (s : State) (h l n) : (s.wave h l n).levelOf .buzz = if n = 0 then s.levelOf .buzz else false := by
  induction n generalizing s with
  | zero => rfl
  | succ n ih =>
    rw [State.wave, ih, if_neg (Nat.succ_ne_zero n)]
    split
    · unfold State.waveCycle
      rw [levelOf_congr (t := ((s.setLevel .buzz true).delay h).setLevel .buzz false) (by simp), levelOf_setLevel, if_pos rfl]
    · rfl

/-- `PlayTone` leaves the LED levels. R150. -/
theorem levelOf_playTone_led (s : State) (f d u c) : (s.playTone f d u).levelOf (.led c) = s.levelOf (.led c) := by
  unfold State.playTone; split
  · exact levelOf_congr (by simp) _
  · exact levelOf_wave_led ..

/-- `PlayTone` takes no answer of the analog environment. R150. -/
theorem playTone_samples (s : State) (f d u) : (s.playTone f d u).env.samples = s.env.samples := by
  unfold State.playTone; split
  · simp
  · generalize toneCycles f d = n
    induction n generalizing s with
    | zero => rfl
    | succ n ih => rw [State.wave, ih]; simp [State.waveCycle]

/-- `PlayTone` leaves every direction. R150. -/
theorem playTone_dirOf (s : State) (f d u p) : (s.playTone f d u).dirOf p = s.dirOf p := dirOf_congr (by simp) _

/-- `IndicateOff` leaves every direction. R160. -/
theorem indicateOff_dirOf (s : State) (p) : s.indicateOff.dirOf p = s.dirOf p := dirOf_congr (by simp) _

/-- An event leaves every direction. -/
theorem emit_dirOf (s : State) (e p) : (s.emit e).dirOf p = s.dirOf p := dirOf_congr (by simp) _

/-- An event leaves every level. -/
theorem emit_levelOf (s : State) (e p) : (s.emit e).levelOf p = s.levelOf p := levelOf_congr (by simp) _

/-- The hand-over leaves every level. R130. -/
theorem micHandover_levelOf (s : State) (p) : (s.micHandover).levelOf p = s.levelOf p := levelOf_congr (by simp) _

/-- A level write leaves every direction. R14. -/
theorem setLevel_dirOf (s : State) (p v q) : (s.setLevel p v).dirOf q = s.dirOf q := dirOf_congr (by simp) _

/-- A direction write leaves every level. R14. -/
theorem setDir_levelOf (s : State) (p v q) : (s.setDir p v).levelOf q = s.levelOf q := levelOf_congr (by simp) _

/-- The unmask leaves every direction. R186. -/
theorem unmask_dirOf (s : State) (q) : (s.unmaskTick).dirOf q = s.dirOf q := dirOf_congr (by simp) _

/-- The unmask leaves every level. R186. -/
theorem unmask_levelOf (s : State) (q) : (s.unmaskTick).levelOf q = s.levelOf q := levelOf_congr (by simp) _

/-- INIT leaves BUZZ's direction. R110. -/
theorem dirOf_init_buzz (s : State) :
    (s.fullClock.zeroBanks.clearSwp.ledsOut.setOwner .LED).startTimer.initAdc.dirOf .buzz = s.dirOf .buzz := by
  rw [dirOf_congr (t := s.fullClock.zeroBanks.clearSwp.ledsOut) (by simp), dirOf_ledsOut]; simp [State.dirOf]

/-- LEDOFF leaves BUZZ's level. R118. -/
theorem levelOf_zeroBanks_writeLeds_buzz (s : State) (f) : (s.zeroBanks.writeLeds f).levelOf .buzz = s.levelOf .buzz := by
  rw [levelOf_writeLeds_buzz]; rfl

/-- A rest leaves every level. R150. -/
theorem playTone_rest_levelOf (s : State) (d u p) :
    (s.playTone 0 d u).levelOf p = s.levelOf p := levelOf_congr (by simp [State.playTone]) _

end Sys2Proof.Machine
end

