-- ==== Sys2Proof/Laws/Exec.lean ====
section
/-! SUPPORT. What exec and step can answer, said once (inversion lemmas), and two relations every shared operation keeps: the
clock moves by Tick events only (`Ticks`), the history only grows (`Grow`). -/

namespace Sys2Proof.Machine

/-- Every next state of exec, command by command. -/
theorem exec_cases {i : Instr} {s t : State} (h : exec i s = .next t) :
    (i = .millis ∧ t = (s.maskTick.returnValue s.ms).unmaskTick) ∨
    (i = .init ∧ t = (s.fullClock.zeroBanks.clearSwp.ledsOut.setOwner .LED).startTimer.initAdc) ∨
    (i = .update ∧ t = (s.advancePwm.writeLeds s.advancePwm.onPhase).arbitrateSharedPin) ∨
    (∃ ch br, i = .ledset ch br ∧ ((ch < 4 ∧ ∃ c b, t = (s.setPending c b).raiseSwp) ∨ (4 ≤ ch ∧ t = s))) ∨
    (i = .ledoff ∧ t = s.zeroBanks.writeLeds fun _ => false) ∨
    (s.cfg.micEnable = true ∧ i = .micinit ∧ t = s.micHandover) ∨
    (s.cfg.micEnable = true ∧ i = .micread ∧ ∃ v, t = s.readOne.1.returnValue v) ∨
    (s.cfg.micEnable = true ∧ i = .micreadf ∧ ∃ v, t = (s.readMany 0 s.cfg.micFilterN).1.returnValue v) ∨
    (∃ duty speed n, i = .syncfg duty speed n ∧ t = { s with
      duty := clampDuty duty, speed := clampSpeed speed, transpose := clampSemitones n, synValid := true }) ∨
    (i = .buzon ∧ t = (s.setDir .buzz .output).setLevel .buzz false) ∨
    (∃ f d u, i = .tone f d u ∧ t = s.playTone f d (clampDuty u)) ∨
    (∃ f d g e, i = .note f d ∧ s.synValid = true ∧ d * 100 / s.speed ≤ 65535 ∧ t = (s.indicate f).playTone g e s.duty) ∨
    (∃ e, i = .gap ∧ s.synValid = true ∧ t = s.indicateOff.playTone 0 e s.duty) ∨
    (s.cfg.micEnable = true ∧ i = .melend ∧ t = s.indicateOff.micHandover.emit .recal) ∨
    (s.cfg.micEnable = false ∧ i = .melend ∧ t = s.indicateOff) ∨
    (∃ f n v, i = .transp f n ∧ t = s.returnValue v) ∨
    (∃ f, i = .aind f ∧ t = s.indicate f) ∨
    (i = .aindoff ∧ t = s.indicateOff) := by
  cases i
  case ledset ch br =>
    simp only [exec, execLedset, channelOf] at h
    by_cases hc : ch < 4 <;> simp [hc] at h
    · refine .inr (.inr (.inr (.inl ⟨_, _, rfl, .inl ⟨hc, _, _, h.symm⟩⟩)))
    · refine .inr (.inr (.inr (.inl ⟨_, _, rfl, .inr ⟨by omega, h.symm⟩⟩)))
  case micinit => simp only [exec, execMicinit] at h; split at h <;> cases h; simp_all
  case micread => simp only [exec, execMicread] at h; split at h <;> cases h; simp_all
  case micreadf => simp only [exec, execMicreadf] at h; split at h <;> cases h; simp_all
  case note f d =>
    simp only [exec, execNote, scaledMs] at h
    by_cases h1 : s.synValid = true <;> by_cases h2 : d * 100 / s.speed ≤ 65535 <;> simp [h1, h2] at h
    simp [h1, h2]; exact ⟨_, _, h.symm⟩
  case gap => simp only [exec, execGap] at h; split at h <;> cases h; simp_all; exact ⟨_, rfl⟩
  case melend => simp only [exec, execMelend] at h; split at h <;> cases h <;> simp_all
  case transp f n => cases h; simp
  all_goals (cases h; simp; try rfl)

/-- Every next state of step. -/
theorem step_cases {s t : State} (h : step s = .next t) :
    (∃ i rest u, decode (s.stream.drop s.ci) = .ok (i, rest) ∧ exec i s.tickPoint = .next u ∧ t = u.passCommand i) ∨
    (s.tickPoint.fetch = .error .endOfStream ∧ t = s.tickPoint) := by
  unfold step at h
  split at h
  · next i hf =>
    simp only [State.fetch, tickPoint_stream, tickPoint_ci] at hf
    split at hf <;> cases hf
    next rest hd =>
    split at h <;> cases h
    next u hu => exact .inl ⟨_, _, u, hd, hu, rfl⟩
  · next hf => cases h; exact .inr ⟨hf, rfl⟩
  · cases h
  · cases h

/-! The clock -/

/-- From `s` to `t` the clock moved by the Tick events added, and not at all with the timer stopped. R104. -/
def Ticks (s t : State) : Prop :=
  (∃ k : Nat, t.ms = s.ms + BitVec.ofNat 32 k ∧ t.hist.count .tick = s.hist.count .tick + k) ∧
  (s.timerRun = false → t.ms = s.ms)

theorem Ticks.of_eq {s t u : State} (h : Ticks s t) (h1 : u.ms = t.ms) (h2 : u.hist.count .tick = t.hist.count .tick) :
    Ticks s u := by
  unfold Ticks at *; rw [h1, h2]; exact h

theorem Ticks.refl (s) : Ticks s s := ⟨⟨0, by simp⟩, fun _ => rfl⟩

theorem Ticks.trans {s t u : State} (h : Ticks s t) (h' : Ticks t u) (hr : t.timerRun = s.timerRun) : Ticks s u := by
  obtain ⟨⟨k, a, b⟩, c⟩ := h
  obtain ⟨⟨k', a', b'⟩, c'⟩ := h'
  refine ⟨⟨k + k', ?_, by omega⟩, fun h => ?_⟩
  · rw [a', a, BitVec.ofNat_add, BitVec.add_assoc]
  · rw [c' (by simp [hr, h]), c h]

theorem tickDue_Ticks (s : State) : Ticks s s.tickDue := by
  unfold State.tickDue Ticks; split
  · split
    · exact ⟨⟨0, by simp⟩, by simp⟩
    · exact ⟨⟨1, by simp⟩, by simp_all⟩
  · exact ⟨⟨0, by simp⟩, by simp⟩

theorem ticksDue_Ticks (s : State) (k) : Ticks s (s.ticksDue k) := by
  induction k generalizing s with
  | zero => exact Ticks.refl s
  | succ k ih => exact (tickDue_Ticks s).trans (ih s.tickDue) (by simp)

theorem tickPoint_Ticks (s : State) : Ticks s s.tickPoint := by
  unfold State.tickPoint; split
  · exact (ticksDue_Ticks s.takeTicks _)
  · exact Ticks.refl s

theorem delay_Ticks (s : State) (us) : Ticks s (s.delay us) := by
  have : Ticks s (s.emit (.wait us)) := (Ticks.refl s).of_eq rfl (by simp)
  exact this.trans (tickPoint_Ticks _) rfl

theorem wave_Ticks (s : State) (h l k) : Ticks s (s.wave h l k) := by
  induction k generalizing s with
  | zero => exact Ticks.refl s
  | succ k ih =>
    refine Ticks.trans (t := s.waveCycle h l) ?_ (ih _) (by simp)
    unfold State.waveCycle
    refine Ticks.trans (t := (((s.setLevel .buzz true).delay h).setLevel .buzz false)) ?_ (delay_Ticks _ _) (by simp)
    refine Ticks.of_eq (t := ((s.setLevel .buzz true).delay h)) ?_ rfl (by simp)
    exact Ticks.trans (t := s.setLevel .buzz true) ((Ticks.refl s).of_eq rfl (by simp)) (delay_Ticks _ _) rfl

theorem playTone_Ticks (s : State) (f d u) : Ticks s (s.playTone f d u) := by
  unfold State.playTone; split
  · exact delay_Ticks _ _
  · exact wave_Ticks _ _ _ _

theorem indicate_Ticks (s : State) (f) : Ticks s (s.indicate f) := (Ticks.refl s).of_eq (by simp) (by simp [State.indicate])

theorem indicateOff_Ticks (s : State) :
    Ticks s (s.indicateOff) := (Ticks.refl s).of_eq (by simp) (by simp [State.indicateOff])

theorem micHandover_Ticks (s : State) : Ticks s s.micHandover := by
  unfold State.micHandover
  exact Ticks.trans (t := (((s.setDir s.sharedPin .input).setOwner .MIC).configureAdc)) ((Ticks.refl s).of_eq rfl (by simp)) (delay_Ticks _ _) rfl

theorem readOne_Ticks (s : State) : Ticks s s.readOne.1 := by
  unfold State.readOne
  refine Ticks.of_eq (t := (((if s.safe then s else s.delay s.cfg.micWaitUs).dropSafe).delay s.cfg.adcConvUs)) ?_ rfl (by simp)
  refine Ticks.trans (t := (if s.safe then s else s.delay s.cfg.micWaitUs).dropSafe) ?_ (delay_Ticks _ _) (by split <;> simp)
  refine Ticks.of_eq (t := (if s.safe then s else s.delay s.cfg.micWaitUs)) ?_ rfl (by simp)
  split
  · exact Ticks.refl s
  · exact delay_Ticks _ _

theorem readMany_Ticks (s : State) (sum n) : Ticks s (s.readMany sum n).1 := by
  induction n using Nat.strongRecOn generalizing s sum with
  | _ n ih =>
    match n with
    | 0 => exact Ticks.refl s
    | 1 => exact readOne_Ticks s
    | n + 2 =>
      refine Ticks.trans (t := s.readOne.1.delay s.cfg.micFilterDelayUs) ?_ (ih (n+1) (by omega) _ _) (by simp)
      exact (readOne_Ticks s).trans (delay_Ticks _ _) (by simp)

/-! The history -/

/-- From `s` to `t` the history only grew; stream, parameters and index are the same. R46, R64. -/
def Grow (s t : State) : Prop := (∃ evs, t.hist = s.hist ++ evs) ∧ t.stream = s.stream ∧ t.cfg = s.cfg ∧ t.ci = s.ci

theorem Grow.refl (s) : Grow s s := ⟨⟨[], by simp⟩, rfl, rfl, rfl⟩

theorem Grow.trans {s t u : State} (h : Grow s t) (h' : Grow t u) : Grow s u := by
  obtain ⟨⟨a, b⟩, c, d, e⟩ := h
  obtain ⟨⟨a', b'⟩, c', d', e'⟩ := h'
  exact ⟨⟨a ++ a', by rw [b', b, List.append_assoc]⟩, c'.trans c, d'.trans d, e'.trans e⟩

theorem Grow.of (s t : State) (evs) (h : t.hist = s.hist ++ evs) (h1 : t.stream = s.stream) (h2 : t.cfg = s.cfg) (h3 : t.ci = s.ci) :
    Grow s t := ⟨⟨evs, h⟩, h1, h2, h3⟩

theorem grow_tickDue (s : State) : Grow s s.tickDue := by
  unfold State.tickDue; split
  · split
    · exact .of _ _ [] (by simp) rfl rfl rfl
    · exact .of _ _ [.tick] rfl rfl rfl rfl
  · exact .refl s

theorem grow_ticksDue (s : State) (k) : Grow s (s.ticksDue k) := by
  induction k generalizing s with
  | zero => exact .refl s
  | succ k ih => exact (grow_tickDue s).trans (ih _)

theorem grow_tickPoint (s : State) : Grow s s.tickPoint := by
  unfold State.tickPoint; split
  · exact Grow.trans (t := s.takeTicks) (.of _ _ [] (by simp) rfl rfl rfl) (grow_ticksDue _ _)
  · exact .refl s

theorem grow_delay (s : State) (us) :
    Grow s (s.delay us) := Grow.trans (t := s.emit (.wait us)) (.of _ _ _ rfl rfl rfl rfl) (grow_tickPoint _)

theorem grow_wave (s : State) (h l n) : Grow s (s.wave h l n) := by
  induction n generalizing s with
  | zero => exact .refl s
  | succ n ih =>
    refine Grow.trans ?_ (ih _)
    unfold State.waveCycle
    refine Grow.trans (t := ((s.setLevel .buzz true).delay h)) ?_ (Grow.trans (t := ((s.setLevel .buzz true).delay h).setLevel .buzz false) (.of _ _ _ rfl rfl rfl rfl) (grow_delay _ _))
    exact Grow.trans (t := s.setLevel .buzz true) (.of _ _ _ rfl rfl rfl rfl) (grow_delay _ _)

theorem grow_playTone (s : State) (f d u) : Grow s (s.playTone f d u) := by
  unfold State.playTone; split
  · exact grow_delay _ _
  · exact grow_wave _ _ _ _

theorem grow_indicate (s : State) (f) :
    Grow s (s.indicate f) := .of _ _ _ (indicate_hist_ledEvents _ _) (by simp) (by simp) (by simp)

theorem grow_indicateOff (s : State) :
    Grow s (s.indicateOff) := .of _ _ _ (indicateOff_hist_ledEvents _) (by simp) (by simp) (by simp)

theorem grow_micHandover (s : State) : Grow s s.micHandover := by
  unfold State.micHandover
  exact Grow.trans (t := (((s.setDir s.sharedPin .input).setOwner .MIC).configureAdc)) (.of _ _ [.dir s.sharedPin .input] rfl rfl rfl rfl) (grow_delay _ _)

theorem grow_readOne (s : State) : Grow s s.readOne.1 := by
  unfold State.readOne
  refine Grow.trans (t := (((if s.safe then s else s.delay s.cfg.micWaitUs).dropSafe).delay s.cfg.adcConvUs)) ?_ (.of _ _ _ rfl rfl rfl rfl)
  refine Grow.trans (t := (if s.safe then s else s.delay s.cfg.micWaitUs).dropSafe) ?_ (grow_delay _ _)
  refine Grow.trans (t := (if s.safe then s else s.delay s.cfg.micWaitUs)) ?_ (.of _ _ [] (by simp) rfl rfl rfl)
  split
  · exact .refl s
  · exact grow_delay _ _

theorem grow_readMany (s : State) (sum n) : Grow s (s.readMany sum n).1 := by
  induction n using Nat.strongRecOn generalizing s sum with
  | _ n ih =>
    match n with
    | 0 => exact .refl s
    | 1 => exact grow_readOne s
    | n + 2 => exact ((grow_readOne s).trans (grow_delay _ _)).trans (ih (n+1) (by omega) _ _)

theorem grow_returnValue (s : State) (v) : Grow s (s.returnValue v) := .of _ _ _ rfl rfl rfl rfl

end Sys2Proof.Machine
end

