-- ==== Sys2Proof/Laws/Draws.lean ====
section
/-! SUPPORT. The tick agent's choices in the order they are taken, said once per shared operation and once for exec and step:
none is skipped, and each free one that is not 0 shows as a Tick event. With `Config.freeTicks.fair` this is what weak
fairness (spec/40_clock.md R101) rests on. -/

namespace Sys2Proof.Machine

/-- The first tick point whose count is a free value; the counts before it are given from outside. Log 3. -/
def State.freeFrom (s : State) : Nat := s.env.tickNo + s.env.ticks.length

/-- From the unmasked state `s` to `t` the choices are taken in order, the Tick events do not get fewer, and a choice taken on
the way that is free and not 0 adds some. -/
def Draws (s t : State) : Prop :=
  s.tmask = false → t.tmask = false ∧ s.env.tickNo ≤ t.env.tickNo ∧ t.freeFrom ≤ max s.freeFrom t.env.tickNo ∧
    s.hist.count .tick ≤ t.hist.count .tick ∧
    ∀ i, s.freeFrom ≤ i → i < t.env.tickNo → 1 ≤ Config.freeTicks.count i → s.hist.count .tick < t.hist.count .tick

theorem Draws.refl (s : State) : Draws s s := by
  refine fun h => ⟨h, by omega, by omega, by omega, fun i hi hi' _ => ?_⟩
  unfold State.freeFrom at hi
  omega

theorem Draws.trans {s t u : State} (h : Draws s t) (h' : Draws t u) : Draws s u := by
  intro hm
  obtain ⟨a1, a2, a3, a4, a5⟩ := h hm
  obtain ⟨b1, b2, b3, b4, b5⟩ := h' a1
  refine ⟨b1, by omega, by omega, by omega, fun i hi hi' hc => ?_⟩
  by_cases hti : i < t.env.tickNo
  · have := a5 i hi hti hc
    omega
  · have := b5 i (by omega) hi' hc
    omega

/-- A change that takes no choice, leaves the mask and removes no Tick event. -/
theorem Draws.then {s t u : State} (h : Draws s t) (h1 : u.tmask = t.tmask) (h2 : u.env.ticks = t.env.ticks)
    (h3 : u.env.tickNo = t.env.tickNo) (h4 : t.hist.count .tick ≤ u.hist.count .tick) : Draws s u := by
  intro hm
  obtain ⟨a1, a2, a3, a4, a5⟩ := h hm
  unfold State.freeFrom at *
  rw [h2, h3]
  refine ⟨h1.trans a1, a2, a3, by omega, fun i hi hi' hc => ?_⟩
  have := a5 i hi hi' hc
  omega

/-- A tick point takes the next choice when the timer runs, and none otherwise. R67, R70, R100. -/
theorem draws_tickPoint (s : State) : Draws s s.tickPoint := by
  by_cases hr : s.timerRun = true
  · intro hm
    have hh : s.tickPoint.hist.count .tick = s.hist.count .tick + s.nextTicks := by
      simp [tickPoint_hist s hm, State.ticksHere, hr]
    have h2 : s.tickPoint.env.ticks = s.env.ticks.tail := by simp [State.tickPoint, hr]
    have h3 : s.tickPoint.env.tickNo = s.env.tickNo + 1 := by simp [State.tickPoint, hr]
    refine ⟨by simpa using hm, by omega, ?_, by omega, fun i hi hi' hc => ?_⟩
    · unfold State.freeFrom
      rw [h2, h3, List.length_tail]
      omega
    · unfold State.freeFrom at hi
      have h0 : s.env.ticks = [] := List.eq_nil_of_length_eq_zero (by omega)
      obtain rfl : i = s.env.tickNo := by omega
      have : s.nextTicks = Config.freeTicks.count s.env.tickNo := by simp [State.nextTicks, h0]
      omega
  · rw [tickPoint_stopped s (by simpa using hr)]
    exact .refl s

/-- A delay. R14. -/
theorem draws_delay (s : State) (us : Nat) : Draws s (s.delay us) :=
  (Draws.then (t := s) (u := s.emit (.wait us)) (.refl s) rfl rfl rfl (by simp)).trans (draws_tickPoint _)

/-- One cycle of the wave. R150. -/
theorem draws_waveCycle (s : State) (high low : Nat) : Draws s (s.waveCycle high low) :=
  (((Draws.then (t := s) (u := s.setLevel .buzz true) (.refl s) rfl rfl rfl (by simp)).trans (draws_delay _ high)).then
    (u := ((s.setLevel .buzz true).delay high).setLevel .buzz false) rfl rfl rfl (by simp)).trans (draws_delay _ low)

/-- The wave. R150. -/
theorem draws_wave (s : State) (high low n : Nat) : Draws s (s.wave high low n) := by
  induction n generalizing s with
  | zero => exact .refl s
  | succ n ih => exact (draws_waveCycle s high low).trans (ih _)

/-- `PlayTone`. R150. -/
theorem draws_playTone (s : State) (f d u : Nat) : Draws s (s.playTone f d u) := by
  unfold State.playTone
  split
  · exact draws_delay s _
  · exact draws_wave s _ _ _

/-- `Indicate`. R158. -/
theorem draws_indicate (s : State) (f : Nat) : Draws s (s.indicate f) :=
  Draws.then (t := s) (.refl s) (by simp) (by simp) (by simp) (by simp [State.indicate])

/-- `IndicateOff`. R160. -/
theorem draws_indicateOff (s : State) : Draws s s.indicateOff :=
  Draws.then (t := s) (.refl s) (by simp) (by simp) (by simp) (by simp [State.indicateOff])

/-- The hand-over to the microphone. R130. -/
theorem draws_micHandover (s : State) : Draws s s.micHandover :=
  (Draws.then (t := s) (u := ((s.setDir s.sharedPin .input).setOwner .MIC).configureAdc) (.refl s) rfl rfl rfl
    (by simp)).trans (draws_delay _ _)

/-- One read. R133. -/
theorem draws_readOne (s : State) : Draws s s.readOne.1 := by
  unfold State.readOne
  refine Draws.then (t := (if s.safe then s else s.delay s.cfg.micWaitUs).dropSafe.delay s.cfg.adcConvUs) ?_ rfl rfl rfl (by simp)
  refine Draws.trans (t := (if s.safe then s else s.delay s.cfg.micWaitUs).dropSafe) ?_ (draws_delay _ _)
  refine Draws.then (t := if s.safe then s else s.delay s.cfg.micWaitUs) ?_ rfl rfl rfl (Nat.le_refl _)
  split
  · exact .refl s
  · exact draws_delay s _

/-- R137's loop. -/
theorem draws_readMany (s : State) (sum n : Nat) : Draws s (s.readMany sum n).1 := by
  induction n using Nat.strongRecOn generalizing s sum with
  | _ n ih =>
    match n with
    | 0 => exact .refl s
    | 1 => exact draws_readOne s
    | n + 2 => exact ((draws_readOne s).trans (draws_delay _ _)).trans (ih (n + 1) (by omega) _ _)

/-- Every command. -/
theorem draws_exec {i : Instr} {s t : State} (h : exec i s = .next t) : Draws s t := by
  have own : ∀ u : State, u.tmask = s.tmask → u.env.ticks = s.env.ticks → u.env.tickNo = s.env.tickNo →
      s.hist.count .tick ≤ u.hist.count .tick → Draws s u := fun u => (Draws.refl s).then
  rcases exec_cases h with ⟨-, rfl⟩ | ⟨-, rfl⟩ | ⟨-, rfl⟩ | ⟨_, _, -, ⟨-, _, _, rfl⟩ | ⟨-, rfl⟩⟩ | ⟨-, rfl⟩ | ⟨-, -, rfl⟩ |
    ⟨-, -, v, rfl⟩ | ⟨-, -, v, rfl⟩ | ⟨_, _, _, -, rfl⟩ | ⟨-, rfl⟩ | ⟨_, _, _, -, rfl⟩ | ⟨f, _, _, _, -, -, -, rfl⟩ |
    ⟨_, -, -, rfl⟩ | ⟨-, -, rfl⟩ | ⟨-, -, rfl⟩ | ⟨_, _, _, -, rfl⟩ | ⟨f, -, rfl⟩ | ⟨-, rfl⟩
  · intro hm
    refine own _ (by simp [hm]) (by simp) (by simp) ?_ hm
    unfold State.unmaskTick State.tickDue
    split
    · split <;> simp
    · simp
  · exact own _ (by simp) (by simp) (by simp) (by simp)
  · refine own _ (by simp) (by simp) (by simp) ?_
    unfold State.arbitrateSharedPin State.raiseSafe
    (repeat' split) <;> simp
  · exact own _ rfl rfl rfl (Nat.le_refl _)
  · exact .refl _
  · exact own _ (by simp) (by simp) (by simp) (by simp)
  · exact draws_micHandover s
  · exact (draws_readOne s).then rfl rfl rfl (by simp)
  · exact (draws_readMany s _ _).then rfl rfl rfl (by simp)
  · exact own _ rfl rfl rfl (Nat.le_refl _)
  · exact own _ rfl rfl rfl (by simp)
  · exact draws_playTone s _ _ _
  · exact (draws_indicate s f).trans (draws_playTone _ _ _ _)
  · exact (draws_indicateOff s).trans (draws_playTone _ _ _ _)
  · exact ((draws_indicateOff s).trans (draws_micHandover _)).then rfl rfl rfl (by simp)
  · exact draws_indicateOff s
  · exact own _ rfl rfl rfl (by simp)
  · exact draws_indicate s f
  · exact draws_indicateOff s

/-- Every step; with the timer running it takes at least one choice. -/
theorem draws_step {s t : State} (h : step s = .next t) :
    Draws s t ∧ (s.timerRun = true → s.tmask = false → s.env.tickNo < t.env.tickNo) := by
  have h1 : s.timerRun = true → s.tickPoint.env.tickNo = s.env.tickNo + 1 := fun hr => by simp [State.tickPoint, hr]
  rcases step_cases h with ⟨i, rest, u, -, hu, rfl⟩ | ⟨-, rfl⟩
  · refine ⟨((draws_tickPoint s).trans (draws_exec hu)).then rfl rfl rfl (Nat.le_refl _), fun hr hm => ?_⟩
    have h2 := (draws_exec hu (by simpa using hm)).2.1
    have h3 : (u.passCommand i).env.tickNo = u.env.tickNo := rfl
    have := h1 hr
    omega
  · exact ⟨draws_tickPoint s, fun hr _ => by have := h1 hr; omega⟩

end Sys2Proof.Machine
end

