-- ==== Sys2Proof/Laws/PerInstr.lean ====
section
/-! SUPPORT. Per-instruction laws: the family EncodingShape says of each command what its encoding looks like: as long as its
row of spec/30_encoding.md R84 says, and beginning with the row's opcode byte, which the decoder maps back to the row. -/

namespace Sys2Proof.Laws

/-- R80, R84, R87: the encoding of the command is its row's opcode byte and the operand bytes its format counts, and that byte
alone tells the decoder the row. -/
def EncodingShape.Statement (i : Instr) : Prop :=
  (encode i).length = i.length ∧ (encode i).head? = some i.mnemonic.opcode ∧
    Mnemonic.ofOpcode i.mnemonic.opcode = some i.mnemonic

theorem EncodingShape.millis : EncodingShape.Statement .millis := ⟨rfl, rfl, ofOpcode_opcode _⟩
theorem EncodingShape.init : EncodingShape.Statement .init := ⟨rfl, rfl, ofOpcode_opcode _⟩
theorem EncodingShape.update : EncodingShape.Statement .update := ⟨rfl, rfl, ofOpcode_opcode _⟩
theorem EncodingShape.ledset (ch : Nat) (br : Nat) : EncodingShape.Statement (.ledset ch br) := ⟨rfl, rfl, ofOpcode_opcode _⟩
theorem EncodingShape.ledoff : EncodingShape.Statement .ledoff := ⟨rfl, rfl, ofOpcode_opcode _⟩
theorem EncodingShape.micinit : EncodingShape.Statement .micinit := ⟨rfl, rfl, ofOpcode_opcode _⟩
theorem EncodingShape.micread : EncodingShape.Statement .micread := ⟨rfl, rfl, ofOpcode_opcode _⟩
theorem EncodingShape.micreadf : EncodingShape.Statement .micreadf := ⟨rfl, rfl, ofOpcode_opcode _⟩
theorem EncodingShape.syncfg (duty : Nat) (speed : Nat) (n : Int) : EncodingShape.Statement (.syncfg duty speed n) := ⟨rfl, rfl, ofOpcode_opcode _⟩
theorem EncodingShape.buzon : EncodingShape.Statement .buzon := ⟨rfl, rfl, ofOpcode_opcode _⟩
theorem EncodingShape.tone (f : Nat) (d : Nat) (duty : Nat) : EncodingShape.Statement (.tone f d duty) := ⟨rfl, rfl, ofOpcode_opcode _⟩
theorem EncodingShape.note (f : Nat) (d : Nat) : EncodingShape.Statement (.note f d) := ⟨rfl, rfl, ofOpcode_opcode _⟩
theorem EncodingShape.gap : EncodingShape.Statement .gap := ⟨rfl, rfl, ofOpcode_opcode _⟩
theorem EncodingShape.melend : EncodingShape.Statement .melend := ⟨rfl, rfl, ofOpcode_opcode _⟩
theorem EncodingShape.transp (f : Nat) (n : Int) : EncodingShape.Statement (.transp f n) := ⟨rfl, rfl, ofOpcode_opcode _⟩
theorem EncodingShape.aind (f : Nat) : EncodingShape.Statement (.aind f) := ⟨rfl, rfl, ofOpcode_opcode _⟩
theorem EncodingShape.aindoff : EncodingShape.Statement .aindoff := ⟨rfl, rfl, ofOpcode_opcode _⟩

end Sys2Proof.Laws
end

