-- ==== Sys2Proof/Laws/Transpose.lean ====
section
/-! SUPPORT. The chromatic table (R8: strictly increasing, entries 1..65535) and R148's two functions on it. -/

namespace Sys2Proof.Machine

/-- Strictly increasing. R8. -/
theorem table_lt (c : Config) {i j : Nat} (h : i < j) (hj : j < c.nt) : tableRead c i < tableRead c j := by
  have := List.pairwise_iff_getElem.1 c.chroma_increasing i j (by unfold Config.nt at hj; omega) hj h
  simp only [tableRead]
  rw [List.getD_eq_getElem _ _ (by unfold Config.nt at hj; omega), List.getD_eq_getElem _ _ hj]
  exact this

/-- Increasing. R8. -/
theorem table_le (c : Config) {i j : Nat} (h : i ≤ j) (hj : j < c.nt) : tableRead c i ≤ tableRead c j := by
  rcases Nat.eq_or_lt_of_le h with h | h
  · rw [h]
  · exact (table_lt c h hj).le

/-- Entries are 1..65535. R8. -/
theorem table_range (c : Config) {i : Nat} (h : i < c.nt) : 1 ≤ tableRead c i ∧ tableRead c i ≤ 65535 := by
  apply c.chroma_range
  simp only [tableRead]
  rw [List.getD_eq_getElem _ _ h]; exact List.getElem_mem _

/-- The table is not empty. R8. -/
theorem nt_pos (c : Config) : 1 ≤ c.nt := c.chroma_nonempty

/-- `i` is the least index among the first `m` whose entry is closest to `f`. R148. -/
def NearSpec (c : Config) (f m i : Nat) : Prop :=
  i < m ∧ (∀ k, k < m → absdiff (tableRead c i) f ≤ absdiff (tableRead c k) f) ∧
    (∀ k, k < i → absdiff (tableRead c i) f < absdiff (tableRead c k) f)

/-- R148's loop keeps `NearSpec`. -/
theorem nearSpec_foldl (c : Config) (f m b n : Nat) (h : NearSpec c f m b) :
    NearSpec c f (m + n) ((List.range' m n).foldl (closer c f) b) := by
  induction n generalizing m b with
  | zero => exact h
  | succ n ih =>
    rw [List.range'_succ, List.foldl_cons]
    have : m + (n + 1) = (m + 1) + n := by omega
    rw [this]
    apply ih
    obtain ⟨h1, h2, h3⟩ := h
    unfold closer
    split
    · next hlt =>
      refine ⟨by omega, fun k hk => ?_, fun k hk => lt_of_lt_of_le hlt (h2 k hk)⟩
      rcases Nat.lt_or_eq_of_le (Nat.lt_succ_iff.1 hk) with h | h
      · exact (lt_of_lt_of_le hlt (h2 k h)).le
      · rw [h]
    · next hlt =>
      refine ⟨by omega, fun k hk => ?_, h3⟩
      rcases Nat.lt_or_eq_of_le (Nat.lt_succ_iff.1 hk) with h | h
      · exact h2 k h
      · rw [h]; omega

/-- `Nearest` meets `NearSpec`. R148. -/
theorem nearest_spec (c : Config) (f : Nat) : NearSpec c f c.nt (nearest c f) := by
  have h := nearSpec_foldl c f 1 0 (c.nt - 1) ⟨by omega, fun k hk => by rw [show k = 0 by omega], fun k hk => by omega⟩
  rwa [show 1 + (c.nt - 1) = c.nt by have := nt_pos c; omega] at h

/-- The shifted, clamped index. R148. -/
theorem shiftIndex_eq (c : Config) (i : Nat) (n : Int) :
    (shiftIndex c i n : Int) = max 0 (min ((i : Int) + n) ((c.nt : Int) - 1)) := by
  have := nt_pos c
  unfold shiftIndex clampInt
  split
  · omega
  · split <;> omega

/-- The shifted index is in the table. R62. -/
theorem shiftIndex_lt (c : Config) (i : Nat) (n : Int) : shiftIndex c i n < c.nt := by
  have := nt_pos c
  have := shiftIndex_eq c i n; omega

/-- A transposed frequency has 16 bits. R62. -/
theorem transposeFreq_le (c : Config) (f n) : transposeFreq c f n ≤ 65535 := by
  unfold transposeFreq; split
  · omega
  · exact (table_range c (shiftIndex_lt ..)).2

/-- An entry is its own nearest. R149. -/
theorem nearest_entry (c : Config) (i : Nat) (h : i < c.nt) : nearest c (tableRead c i) = i := by
  obtain ⟨a, b, d⟩ := nearest_spec c (tableRead c i)
  have h0 := b i h
  have hz : tableRead c (nearest c (tableRead c i)) = tableRead c i := by
    simp only [absdiff, le_refl, Nat.sub_self, if_true] at h0
    split at h0 <;> omega
  rcases Nat.lt_trichotomy (nearest c (tableRead c i)) i with hl | hl | hl
  · have := table_lt c hl h; omega
  · exact hl
  · have := table_lt c hl a; omega

/-- Transposing an entry shifts its index. R148. -/
theorem transpose_entry (c : Config) (i : Nat) (n) (h : i < c.nt) :
    transposeFreq c (tableRead c i) n = tableRead c (shiftIndex c i n) := by
  have := table_range c h
  rw [transposeFreq, if_neg (by omega), nearest_entry c i h]

/-- Entries are distinct. R8. -/
theorem table_inj (c : Config) {i j : Nat} (hi : i < c.nt) (hj : j < c.nt) : tableRead c i = tableRead c j ↔ i = j := by
  constructor
  · intro h
    rcases Nat.lt_trichotomy i j with hl | hl | hl
    · have := table_lt c hl hj; omega
    · exact hl
    · have := table_lt c hl hi; omega
  · rintro rfl; rfl

/-- `Nearest` is monotone. R149. -/
theorem nearest_mono (c : Config) (f g : Nat) (h : f ≤ g) : nearest c f ≤ nearest c g := by
  obtain ⟨a, b, d⟩ := nearest_spec c f
  obtain ⟨a', b', d'⟩ := nearest_spec c g
  by_contra hn
  have hn : nearest c g < nearest c f := by omega
  have h1 := d _ hn
  have h2 := b' _ a
  have h3 := table_lt c hn a
  unfold absdiff at h1 h2
  split at h1 <;> split at h1 <;> split at h2 <;> split at h2 <;> omega

end Sys2Proof.Machine
end

