-- ==== Sys2Proof/Laws/Unread.lean ====
section
/-! SUPPORT. The registers whose values R47 leaves open (spec/10_state.md) under each shared operation: writing them before the
operation is writing them after it, said once per operation. -/

namespace Sys2Proof.Machine

/-- Values for the registers that R47 leaves "unspecified" or without a value. -/
structure Unread where
  clkFull : Bool
  pullSh : Bool
  duty : Nat
  speed : Nat
  transpose : Int
  res : Word

/-- `s` with these values. -/
def State.withUnread (s : State) (x : Unread) : State := { s with
  clkFull := x.clkFull, pullSh := x.pullSh, duty := x.duty, speed := x.speed, transpose := x.transpose, res := x.res }

variable (x : Unread) (s : State)

/-- States that agree on what is read differ by a `withUnread`. -/
theorem AgreeOnRead.eq_withUnread {s t : State} (h : s.AgreeOnRead t) :
    t = s.withUnread ⟨t.clkFull, t.pullSh, t.duty, t.speed, t.transpose, t.res⟩ := h.rest

/-- The interrupt. R187. -/
theorem tickDue_withUnread : (s.withUnread x).tickDue = s.tickDue.withUnread x := by
  unfold State.tickDue
  show (if s.timerRun then (if s.tmask then _ else _) else _) = _
  split
  · split <;> rfl
  · rfl

theorem ticksDue_withUnread (k : Nat) : (s.withUnread x).ticksDue k = (s.ticksDue k).withUnread x := by
  induction k generalizing s with
  | zero => rfl
  | succ k ih =>
    rw [State.ticksDue, tickDue_withUnread, ih]
    rfl

/-- Tick points. R67, R70. -/
theorem tickPoint_withUnread : (s.withUnread x).tickPoint = s.tickPoint.withUnread x := by
  unfold State.tickPoint
  rw [show (s.withUnread x).takeTicks = s.takeTicks.withUnread x from rfl, ticksDue_withUnread]
  show (if s.timerRun then _ else _) = _
  split <;> rfl

/-- Delays. R14. -/
theorem delay_withUnread (us : Nat) : (s.withUnread x).delay us = (s.delay us).withUnread x :=
  tickPoint_withUnread x (s.emit (.wait us))

/-- The wave. R150. -/
theorem wave_withUnread (high low n : Nat) : (s.withUnread x).wave high low n = (s.wave high low n).withUnread x := by
  induction n generalizing s with
  | zero => rfl
  | succ n ih =>
    have h1 : (s.withUnread x).waveCycle high low = (s.waveCycle high low).withUnread x := by
      unfold State.waveCycle
      rw [show (s.withUnread x).setLevel .buzz true = (s.setLevel .buzz true).withUnread x from rfl, delay_withUnread,
        show ∀ t : State, (t.withUnread x).setLevel .buzz false = (t.setLevel .buzz false).withUnread x from fun _ => rfl,
        delay_withUnread]
    rw [State.wave, h1, ih]
    rfl

/-- `PlayTone`. R150. -/
theorem playTone_withUnread (f d u : Nat) : (s.withUnread x).playTone f d u = (s.playTone f d u).withUnread x := by
  unfold State.playTone
  split
  · exact delay_withUnread x s _
  · exact wave_withUnread x s _ _ _

/-- The hand-over to the microphone writes PULL_SH. R130. -/
theorem micHandover_withUnread : (s.withUnread x).micHandover = s.micHandover.withUnread { x with pullSh := false } :=
  delay_withUnread { x with pullSh := false } (((s.setDir s.sharedPin .input).setOwner .MIC).configureAdc) s.cfg.micSettleUs

/-- One read. R133. -/
theorem readOne_withUnread : (s.withUnread x).readOne = (s.readOne.1.withUnread x, s.readOne.2) := by
  have wait : (if (s.withUnread x).safe then s.withUnread x else (s.withUnread x).delay (s.withUnread x).cfg.micWaitUs) =
      (if s.safe then s else s.delay s.cfg.micWaitUs).withUnread x := by
    show (if s.safe then s.withUnread x else (s.withUnread x).delay s.cfg.micWaitUs) = _
    split
    · rfl
    · exact delay_withUnread x s _
  have convert : ∀ t : State,
      (let u := (t.withUnread x).dropSafe.delay s.cfg.adcConvUs
       (u.takeSample.emit (.sample u.nextSample s.safe (u.dirOf u.sharedPin)), u.nextSample)) =
      (let u := t.dropSafe.delay s.cfg.adcConvUs
       ((u.takeSample.emit (.sample u.nextSample s.safe (u.dirOf u.sharedPin))).withUnread x, u.nextSample)) := by
    intro t
    simp only []
    rw [show (t.withUnread x).dropSafe.delay s.cfg.adcConvUs = (t.dropSafe.delay s.cfg.adcConvUs).withUnread x from
      delay_withUnread x t.dropSafe _]
    rfl
  unfold State.readOne
  rw [wait]
  exact convert _

/-- R137's loop. -/
theorem readMany_withUnread (sum n : Nat) :
    (s.withUnread x).readMany sum n = ((s.readMany sum n).1.withUnread x, (s.readMany sum n).2) := by
  induction n using Nat.strongRecOn generalizing s sum with
  | _ n ih =>
    match n with
    | 0 => rfl
    | 1 => simp only [State.readMany, readOne_withUnread]
    | n + 2 =>
      simp only [State.readMany, readOne_withUnread]
      show State.readMany ((s.readOne.1.withUnread x).delay s.cfg.micFilterDelayUs) _ _ = _
      rw [delay_withUnread, ih (n + 1) (by omega)]

/-- The unmask. R186. -/
theorem unmaskTick_withUnread : (s.withUnread x).unmaskTick = s.unmaskTick.withUnread x := by
  unfold State.unmaskTick
  show (if s.tpend then _ else _) = _
  split
  · exact tickDue_withUnread x { s with tmask := false, tpend := false }
  · rfl

/-- SAFE. R113. -/
theorem raiseSafe_withUnread : (s.withUnread x).raiseSafe = s.raiseSafe.withUnread x := by
  unfold State.raiseSafe
  show (if s.subcnt = 0 then _ else _) = _
  split <;> rfl

/-- The counter and the swap. R112. -/
theorem advancePwm_withUnread : (s.withUnread x).advancePwm = s.advancePwm.withUnread x := by
  unfold State.advancePwm
  show (if s.countStep.atBoundary then _ else _) = _
  split
  · unfold State.swapBanks
    show (if s.countStep.countCycle.swp then _ else _) = _
    split <;> rfl
  · rfl

/-- The shared pin. R113. -/
theorem arbitrateSharedPin_withUnread :
    (s.withUnread x).arbitrateSharedPin = s.arbitrateSharedPin.withUnread x := by
  unfold State.arbitrateSharedPin
  show (if s.cfg.micEnable then (if s.onPhase s.cfg.sh then _ else _) else _) = _
  split
  · split
    · rfl
    · exact raiseSafe_withUnread x ((s.setDir s.sharedPin .input).setOwner .MIC)
  · rfl

end Sys2Proof.Machine
end

