-- ==== Sys2Proof/Machine/Assembler.lean ====
section
/-! DEFINITION. The assembler syntax of spec/30_encoding.md R90 and R91, with the pseudo-operations of R92 and R93: printing a
command, and reading a line or a listing. The points R90 does not settle (white space, letter case of hexadecimal digits, a
sign before a hexadecimal number, empty lines) are log 23. -/

namespace Sys2Proof.Machine

/-- The mnemonic column of R84, "in capitals". -/
def mnemonicName : Mnemonic → String
  | .MILLIS => "MILLIS"
  | .INIT => "INIT"
  | .UPDATE => "UPDATE"
  | .LEDSET => "LEDSET"
  | .LEDOFF => "LEDOFF"
  | .MICINIT => "MICINIT"
  | .MICREAD => "MICREAD"
  | .MICREADF => "MICREADF"
  | .SYNCFG => "SYNCFG"
  | .BUZON => "BUZON"
  | .TONE => "TONE"
  | .NOTE => "NOTE"
  | .GAP => "GAP"
  | .MELEND => "MELEND"
  | .TRANSP => "TRANSP"
  | .AIND => "AIND"
  | .AINDOFF => "AINDOFF"

/-- The operand values of a command in the order of R84's operands column. -/
def operandValues : Instr → List Int
  | .millis => []
  | .init => []
  | .update => []
  | .ledset ch br => [ch, br]
  | .ledoff => []
  | .micinit => []
  | .micread => []
  | .micreadf => []
  | .syncfg duty speed n => [duty, speed, n]
  | .buzon => []
  | .tone f d duty => [f, d, duty]
  | .note f d => [f, d]
  | .gap => []
  | .melend => []
  | .transp f n => [f, n]
  | .aind f => [f]
  | .aindoff => []

/-- A number in decimal, with its sign when negative. R90. -/
def intText (n : Int) : String := if n < 0 then "-" ++ Nat.repr n.natAbs else Nat.repr n.natAbs

/-- R90: the command as one line of assembler text, operands separated by commas. -/
def asmText (i : Instr) : String :=
  match operandValues i with
  | [] => mnemonicName i.mnemonic
  | vs => mnemonicName i.mnemonic ++ " " ++ ", ".intercalate (vs.map intText)

/-- The pieces of a line. -/
inductive Token where
  | word (cs : List Char)
  | comma
  | star
  | lpar
  | rpar
  deriving DecidableEq, Repr

/-- The word gathered so far (its letters reversed), before the tokens that follow it. -/
def flushWord (w : List Char) (ts : List Token) : List Token :=
  match w with
  | [] => ts
  | _ => .word w.reverse :: ts

/-- R90: a line cut into tokens; `;` starts a comment to the end of the line. -/
def tokenize (w : List Char) : List Char → List Token
  | [] => flushWord w []
  | c :: cs =>
    if c = ';' then flushWord w []
    else if c = ' ' ∨ c = '\t' ∨ c = '\r' then flushWord w (tokenize [] cs)
    else if c = ',' then flushWord w (.comma :: tokenize [] cs)
    else if c = '*' then flushWord w (.star :: tokenize [] cs)
    else if c = '(' then flushWord w (.lpar :: tokenize [] cs)
    else if c = ')' then flushWord w (.rpar :: tokenize [] cs)
    else tokenize (c :: w) cs

/-- The value of a digit, decimal or hexadecimal. -/
def digitValue (c : Char) : Option Nat :=
  if '0' ≤ c ∧ c ≤ '9' then some (c.toNat - '0'.toNat)
  else if 'a' ≤ c ∧ c ≤ 'f' then some (c.toNat - 'a'.toNat + 10)
  else if 'A' ≤ c ∧ c ≤ 'F' then some (c.toNat - 'A'.toNat + 10)
  else none

/-- The digits of a number in the base, after the value so far. -/
def digitsFrom (base acc : Nat) : List Char → Option Nat
  | [] => some acc
  | c :: cs =>
    match digitValue c with
    | some v => if v < base then digitsFrom base (acc * base + v) cs else none
    | none => none

/-- R90: a number is decimal, or hexadecimal with `0x`. -/
def readNat : List Char → Option Nat
  | [] => none
  | '0' :: 'x' :: c :: cs => digitsFrom 16 0 (c :: cs)
  | c :: cs => digitsFrom 10 0 (c :: cs)

/-- R90: `n` may carry a sign. -/
def readInt : List Char → Option Int
  | '-' :: cs => (readNat cs).map fun v => -(v : Int)
  | '+' :: cs => (readNat cs).map fun v => (v : Int)
  | cs => (readNat cs).map fun v => (v : Int)

/-- The words of an operand list separated by commas. -/
def operandWords : List Token → Option (List (List Char))
  | [] => some []
  | [.word w] => some [w]
  | .word w :: .comma :: t :: ts => (operandWords (t :: ts)).map (w :: ·)
  | _ => none

/-- The command of an operation and its operand words; none when a word is no number or the count is wrong. -/
def readCommand (m : Mnemonic) (ws : List (List Char)) : Option Instr :=
  match m, ws with
  | .MILLIS, [] => some .millis
  | .INIT, [] => some .init
  | .UPDATE, [] => some .update
  | .LEDSET, [ch, br] => do return .ledset (← readNat ch) (← readNat br)
  | .LEDOFF, [] => some .ledoff
  | .MICINIT, [] => some .micinit
  | .MICREAD, [] => some .micread
  | .MICREADF, [] => some .micreadf
  | .SYNCFG, [duty, speed, n] => do return .syncfg (← readNat duty) (← readNat speed) (← readInt n)
  | .BUZON, [] => some .buzon
  | .TONE, [f, d, duty] => do return .tone (← readNat f) (← readNat d) (← readNat duty)
  | .NOTE, [f, d] => do return .note (← readNat f) (← readNat d)
  | .GAP, [] => some .gap
  | .MELEND, [] => some .melend
  | .TRANSP, [f, n] => do return .transp (← readNat f) (← readInt n)
  | .AIND, [f] => do return .aind (← readNat f)
  | .AINDOFF, [] => some .aindoff
  | _, _ => none

/-- Why a line is rejected. -/
inductive AsmError where
  /-- No mnemonic of R84 and no pseudo-operation. -/
  | unknownMnemonic (w : List Char)
  /-- The operands are not the operation's: wrong count, wrong separator, no number. -/
  | badOperands
  /-- R91: an operand does not fit its field. -/
  | operandOutOfField (i : Instr)
  /-- R90: `N *` stands only before a Z-format mnemonic. -/
  | badRepetition
  deriving DecidableEq, Repr

/-- R91: the commands, if every operand fits its field. -/
def checkFields (is : List Instr) : Except AsmError (List Instr) :=
  match is.find? fun i => !i.wellFormed with
  | some i => .error (.operandOutOfField i)
  | none => .ok is

/-- The operation a mnemonic word names. -/
def mnemonicOf (w : List Char) : Option Mnemonic := Mnemonic.all.find? fun m => (mnemonicName m).toList == w

/-- R92: the notes `, (f1,d1), (f2,d2), ...` after the first three operands of MELODY. -/
def readNotes : List Token → Option (List (Nat × Nat))
  | [] => some []
  | .comma :: .lpar :: .word f :: .comma :: .word d :: .rpar :: ts => do
    return (← readNat f, ← readNat d) :: (← readNotes ts)
  | _ => none

/-- R92, R93: the pseudo-operations with operands as written; none when the line is none of them or is malformed. -/
def readPseudo (w : List Char) (ts : List Token) : Option (List Instr) :=
  if w = "REST".toList then
    match operandWords ts with
    | some [d] => do return restNote (← readNat d)
    | _ => none
  else if w = "LEDALL".toList then
    match operandWords ts with
    | some [b0, b1, b2, b3] => do return ledAll (← readNat b0) (← readNat b1) (← readNat b2) (← readNat b3)
    | _ => none
  else if w = "MELODY".toList then
    match ts with
    | .word duty :: .comma :: .word speed :: .comma :: .word n :: notes => do
      return melody (← readNat duty) (← readNat speed) (← readInt n) (← readNotes notes)
    | _ => none
  else none

/-- One line without its repetition part. A pseudo-operation's operands are checked in the commands it expands to, so that of a
MELODY without notes (R92: it expands to nothing) no duty, speed or n is rejected, `MELODY 300, 100, 0` included. DESIGN CHOICE:
R91 does not say; log 23. -/
def readPlainLine : List Token → Except AsmError (List Instr)
  | [] => .ok []
  | .word w :: ts =>
    match mnemonicOf w with
    | some m =>
      match (operandWords ts).bind (readCommand m) with
      | some i => checkFields [i]
      | none => .error .badOperands
    | none =>
      if w = "REST".toList ∨ w = "LEDALL".toList ∨ w = "MELODY".toList then
        match readPseudo w ts with
        | some is => checkFields is
        | none => .error .badOperands
      else .error (.unknownMnemonic w)
  | _ => .error .badOperands

/-- R90: one line: empty, a command, a pseudo-operation, or `N *` before a Z-format mnemonic. -/
def readLine (line : List Char) : Except AsmError (List Instr) :=
  match tokenize [] line with
  | .word k :: .star :: ts =>
    match readNat k, readPlainLine ts with
    | some k, .ok [i] => if i.mnemonic.format = .Z then .ok (List.replicate k i) else .error .badRepetition
    | _, .error e => .error e
    | _, _ => .error .badRepetition
  | ts => readPlainLine ts

/-- A text cut into lines. -/
def linesOf (line : List Char) : List Char → List (List Char)
  | [] => [line.reverse]
  | c :: cs => if c = '\n' then line.reverse :: linesOf [] cs else linesOf (c :: line) cs

/-- The commands of the lines in order, or the first line's error. -/
def readLines : List (List Char) → Except AsmError (List Instr)
  | [] => .ok []
  | l :: ls =>
    match readLine l, readLines ls with
    | .ok is, .ok js => .ok (is ++ js)
    | .error e, _ => .error e
    | .ok _, .error e => .error e

/-- R90: a listing, one command per line, into the commands of its stream. -/
def assemble (text : String) : Except AsmError (List Instr) := readLines (linesOf [] text.toList)

end Sys2Proof.Machine
end

