-- ==== Sys2Proof/Tests/Slice0.lean ====
section
/-! SUPPORT. The model's own tests: the WellFormed smoke, decoding of words written out from spec/30_encoding.md, vectors of
spec/95_test_vectors.md (the section is named at each), the table-word reading, and for every statement with hypotheses a
witness that meets them. Expected values come from the spec's tables, never from the model. -/

namespace Sys2Proof.Tests

open Sys2Proof Sys2Proof.Machine

/-! ## Configurations and states -/

/-- CFG-X of spec/95_test_vectors.md. -/
def cfgX : Config where
  sh := 3
  micEnable := true
  sampleDiv := 1
  micWaitUs := 100
  adcConvUs := 104
  micSettleUs := 1000
  micFilterN := 4
  micFilterDelayUs := 50
  bandT1 := 300
  bandT2 := 500
  bandT3 := 800
  indCh := #v[0, 1, 2, 3]
  chroma := [262, 277, 294, 311, 330, 349, 370, 392, 415, 440, 466, 494, 523] ++
    [554, 587, 622, 659, 698, 740, 784, 831, 880, 932, 988, 1047] ++
    [1109, 1175, 1245, 1319, 1397, 1480, 1568, 1661, 1760, 1865, 1976, 2093]
  sampleDiv_pos := by decide
  micFilterN_pos := by decide
  tick_split := by decide
  chroma_nonempty := by decide
  chroma_increasing := by decide
  chroma_range := by decide
  band_order := by decide
  indCh_injective := by decide

/-- CFG-X without a microphone. -/
def cfgNoMic : Config := { cfgX with micEnable := false }

/-- CFG-X with SAMPLE_DIV = 2. -/
def cfgDiv2 : Config := { cfgX with sampleDiv := 2, sampleDiv_pos := by decide }

/-- CFG-X with MIC_FILTER_N = 1. -/
def cfgOne : Config := { cfgX with micFilterN := 1, micFilterN_pos := by decide }

/-- The reset state under CFG-X. -/
def sX : State := { State.reset with cfg := cfgX }

/-- The reset state under CFG-X without a microphone. -/
def sNoMic : State := { State.reset with cfg := cfgNoMic }

/-- CFG-X after SYNCFG 80, 100, 0. -/
def sSyn : State := { sX with duty := 80, speed := 100, transpose := 0, synValid := true }

/-- CFG-X with these answers of the analog environment. -/
def drawing (vs : List Sample) (safe : Bool) : State := { sX with safe := safe, env := { Env.fresh with samples := vs } }

/-- Something of the next state of a command, none when it stops. -/
def after {α : Type} (i : Instr) (s : State) (f : State → α) : Option α :=
  match exec i s with
  | .next t => some (f t)
  | .fault _ => none
  | .refused _ => none

/-- Why a command is refused, none when it runs. -/
def refusalOf (i : Instr) (s : State) : Option Refusal :=
  match exec i s with
  | .next _ => none
  | .fault _ => none
  | .refused r => some r

/-- Something of the next state of a step. -/
def stepped {α : Type} (s : State) (f : State → α) : Option α :=
  match step s with
  | .next t => some (f t)
  | .fault _ => none
  | .refused _ => none

/-- Why a step is refused. -/
def stepRefusal (s : State) : Option Refusal :=
  match step s with
  | .next _ => none
  | .fault _ => none
  | .refused r => some r

/-- The four LED levels. -/
def leds (s : State) : List Bool := (List.finRange 4).map fun c => s.levelOf (.led c)

/-- The shared pin's direction, the owner and SAFE. -/
def shared (s : State) : Dir × Owner × Bool := (s.dirOf s.sharedPin, s.owner, s.safe)

/-! ## WellFormed smoke: a term each check refuses (R91) -/

theorem test_wf_refuses_ledset_channel : (Instr.ledset 256 0).wellFormed = false := by decide
theorem test_wf_refuses_ledset_brightness : (Instr.ledset 0 256).wellFormed = false := by decide
theorem test_wf_refuses_syncfg_duty : (Instr.syncfg 256 100 0).wellFormed = false := by decide
theorem test_wf_refuses_syncfg_speed : (Instr.syncfg 80 65536 0).wellFormed = false := by decide
theorem test_wf_refuses_syncfg_semitones :
    (Instr.syncfg 80 100 128).wellFormed = false ∧ (Instr.syncfg 80 100 (-129)).wellFormed = false := by decide
theorem test_wf_refuses_tone :
    (Instr.tone 65536 1 50).wellFormed = false ∧ (Instr.tone 440 65536 50).wellFormed = false ∧
    (Instr.tone 440 1 256).wellFormed = false := by decide
theorem test_wf_refuses_note : (Instr.note 65536 1).wellFormed = false ∧ (Instr.note 1 65536).wellFormed = false := by decide
theorem test_wf_refuses_transp :
    (Instr.transp 65536 0).wellFormed = false ∧ (Instr.transp 0 128).wellFormed = false ∧
    (Instr.transp 0 (-129)).wellFormed = false := by decide
theorem test_wf_refuses_aind : (Instr.aind 65536).wellFormed = false := by decide
/-- R91's own examples: out of the operation's range, but encodable. -/
theorem test_wf_accepts_out_of_range_operands :
    (Instr.ledset 9 1).wellFormed = true ∧ (Instr.syncfg 200 5 40).wellFormed = true := by decide

/-! ## Decoding: every constructor by a word written out from R81, R82 and R84 -/

theorem test_decode_millis : decode [0x10] = .ok (.millis, []) := by decide
theorem test_decode_init : decode [0x20] = .ok (.init, []) := by decide
theorem test_decode_update : decode [0x21, 0x21] = .ok (.update, [0x21]) := by decide
/-- Channel and brightness in that order. -/
theorem test_decode_ledset : decode [0x22, 0x04, 0x4D] = .ok (.ledset 4 77, []) := by decide
theorem test_decode_ledoff : decode [0x23] = .ok (.ledoff, []) := by decide
theorem test_decode_micinit : decode [0x30] = .ok (.micinit, []) := by decide
theorem test_decode_micread : decode [0x31] = .ok (.micread, []) := by decide
theorem test_decode_micreadf : decode [0x32] = .ok (.micreadf, []) := by decide
/-- duty 0xC8, speed low byte first 0x0005, n 0x28: 95_test_vectors.md 2.7. -/
theorem test_decode_syncfg : decode [0x40, 0xC8, 0x05, 0x00, 0x28] = .ok (.syncfg 200 5 40, []) := by decide
theorem test_decode_syncfg_negative : decode [0x40, 0x09, 0x18, 0x00, 0xF3] = .ok (.syncfg 9 24 (-13), []) := by decide
theorem test_decode_buzon : decode [0x41] = .ok (.buzon, []) := by decide
theorem test_decode_tone : decode [0x42, 0xB8, 0x01, 0xF4, 0x01, 0xFF] = .ok (.tone 440 500 255, []) := by decide
theorem test_decode_note : decode [0x43, 0xBD, 0x01, 0xF4, 0x01] = .ok (.note 445 500, []) := by decide
theorem test_decode_gap : decode [0x44] = .ok (.gap, []) := by decide
theorem test_decode_melend : decode [0x45] = .ok (.melend, []) := by decide
theorem test_decode_transp : decode [0x46, 0x70, 0x03, 0xF4] = .ok (.transp 880 (-12), []) := by decide
theorem test_decode_transp_lowest : decode [0x46, 0xB8, 0x01, 0x80] = .ok (.transp 440 (-128), []) := by decide
theorem test_decode_aind : decode [0x47, 0xB8, 0x01] = .ok (.aind 440, []) := by decide
theorem test_decode_aindoff : decode [0x48] = .ok (.aindoff, []) := by decide
/-- 2.9: reserved bytes and streams that end inside a command. -/
theorem test_decode_refusals :
    decode [0x00] = .error (.reservedOpcode 0x00) ∧ decode [0x24] = .error (.reservedOpcode 0x24) ∧
    decode [0x49] = .error (.reservedOpcode 0x49) ∧ decode [0xFF] = .error (.reservedOpcode 0xFF) ∧
    decode [0x42, 0xB8, 0x01, 0xF4, 0x01] = .error (.truncated .TONE) ∧
    decode [0x22, 0x03] = .error (.truncated .LEDSET) := by decide
/-- P2's melody bytes. -/
theorem test_encode_melody :
    encodeAll (melody 80 100 0 [(440, 500), (0, 500)]) =
      [0x40, 0x50, 0x64, 0x00, 0x00, 0x41, 0x43, 0xB8, 0x01, 0xF4, 0x01, 0x44, 0x43, 0x00, 0x00, 0xF4, 0x01, 0x45] := by decide

/-! ## The table's words: byte 0 is the most significant byte of the row's number -/

theorem test_table_word_tone : decodeTableWord 48 0x42B801F40150 = some (.tone 440 500 80) := by decide
theorem test_table_word_ledset : decodeTableWord 24 0x220480 = some (.ledset 4 128) := by decide
/-- The other numbering, bytes from the least significant: log 10. -/
theorem test_table_word_low_byte_first : decodeTableWord 24 0x800422 = some (.ledset 4 128) := by decide
theorem test_table_word_short : decodeTableWord 8 0x42 = some (.tone 0 0 0) := by decide
theorem test_fetch_word_runs :
    stepped (State.reset.withFetchWord 24 0x220280) (fun t => (t.pending, t.swp, t.ci)) =
      some (#v[0, 0, 0x80, 0], true, 3) := by decide
/-- 2.9: `21 00` executes UPDATE, then is refused at offset 1. -/
theorem test_step_update_then_refused :
    stepped { sX with stream := [0x21, 0x00] } (fun t => (t.pwmcnt, t.ci)) = some (1, 1) ∧
    stepRefusal { sX with stream := [0x21, 0x00], ci := 1 } = some (.reservedOpcode 0x00) := by decide

/-! ## The assembler (R90 to R93) -/

theorem test_asm_lines :
    (assemble "LEDSET 2, 128\nTRANSP 0x1B8, -12 ; comment\nUPDATE").toOption =
      some [.ledset 2 128, .transp 440 (-12), .update] := by decide
theorem test_asm_rejects :
    (assemble "LEDSET 256, 1").toOption = none ∧ (assemble "NOP").toOption = none ∧ (assemble "2 * AIND 0").toOption = none := by
  decide
theorem test_asm_pseudo :
    (assemble "2 * UPDATE\nREST 5\nLEDALL 1, 2, 3, 4").toOption =
      some [.update, .update, .note 0 5, .ledset 0 1, .ledset 1 2, .ledset 2 3, .ledset 3 4] := by decide
theorem test_asm_text : asmText (.syncfg 80 100 (-12)) = "SYNCFG 80, 100, -12" := by decide

/-! ## Clock, 2.1 -/

theorem test_tick_wraps : (State.tickDue { sX with timerRun := true, ms := 0xFFFFFFFF }).ms = 0 := by decide
theorem test_millis_held_tick :
    after .millis { sX with timerRun := true, ms := 0x1FF, tpend := true } (fun t => (t.res, t.ms, t.tpend)) =
      some (0x1FF, 0x200, false) := by decide
/-- P5: three TICKs before the second MILLIS. -/
theorem test_step_takes_ticks :
    stepped { sX with timerRun := true, stream := [0x10], env := { Env.fresh with ticks := [3] } } (fun t => t.res) = some 3 := by
  decide
/-- 2.1: TICKs inside the rest, as many as the run chooses (here 7). -/
theorem test_tone_takes_ticks :
    after (.tone 0 100 50) { sX with timerRun := true, ms := 3, env := { Env.fresh with ticks := [7] } }
      (fun t => (t.ms, t.hist.head?)) = some (10, some (.wait 100000)) := by decide
theorem test_elapsed : elapsed 0x10 0xFFFFFFF0 = 32 ∧ elapsed 4 5 = 0xFFFFFFFF ∧ timedOut 0x64 0xFFFFFF9C 150 = true := by decide

/-! ## PWM, LED driver, shared pin, 2.2 -/

theorem test_init_keeps_levels :
    after .init { sX with
      active := #v[9, 9, 9, 9], pending := #v[1, 1, 1, 1], swp := true, pwmcnt := 40
      level := #v[true, true, true, true, false] } (fun t => (t.active, t.swp, t.pwmcnt, leds t, t.dirOf (.led 3))) =
      some (#v[0, 0, 0, 0], false, 40, [true, true, true, true], .output) := by decide
theorem test_init_leaves_buzz : after .init sX (fun t => (t.dirOf .buzz, t.adcReady, t.hist.length)) = some (.input, true, 4) := by
  decide
theorem test_update_swaps :
    after .update { sNoMic with pwmcnt := 255, swp := true, pending := #v[10, 0, 255, 3] }
      (fun t => (t.pwmcnt, t.active, t.swp, leds t)) = some (0, #v[10, 0, 255, 3], false, [true, false, true, true]) := by decide
theorem test_update_one_step_window :
    after .update { sX with pwmcnt := 254, active := #v[0, 0, 0, 255] } shared = some (.input, .MIC, true) := by decide
theorem test_ledset_same_value : after (.ledset 3 9) { sX with pending := #v[0, 0, 0, 9] } (fun t => (t.pending, t.swp)) =
    some (#v[0, 0, 0, 9], true) := by decide
theorem test_ledset_bad_channel : after (.ledset 4 128) sX (fun t => (t.pending, t.swp)) = some (#v[0, 0, 0, 0], false) := by decide
theorem test_ledoff_keeps_swp :
    after .ledoff { sX with
      active := #v[10, 20, 30, 40], pending := #v[1, 2, 3, 4], swp := true, pwmcnt := 17
      level := #v[true, true, false, true, false] } (fun t => (t.pending, t.swp, t.pwmcnt, leds t, t.hist.length)) =
      some (#v[0, 0, 0, 0], true, 17, [false, false, false, false], 4) := by decide

/-! ## Sampling, 2.3 -/

theorem test_micinit :
    after .micinit { sX with dir := #v[.output, .output, .output, .output, .input], owner := .AIND, pullSh := true }
      (fun t => (shared t, t.pullSh, t.hist)) =
      some ((.input, .MIC, false), false, [.dir (.led 3) .input, .wait 1000]) := by decide
theorem test_micread_safe : after .micread (drawing [517] true) (fun t => (t.res, t.safe, t.hist)) =
    some (517, false, [.wait 104, .sample 517 true .input, .result 517]) := by decide
theorem test_micread_timeout :
    after .micread { drawing [11] false with dir := #v[.output, .output, .output, .output, .input] } (fun t => t.hist) =
      some [.wait 100, .wait 104, .sample 11 false .output, .result 11] := by decide
theorem test_micreadf_mean : after .micreadf (drawing [500, 503, 498, 502] true) (fun t => (t.res, requestedUs t.hist)) =
    some (500, 866) := by decide
theorem test_micreadf_floor : after .micreadf (drawing [1, 2, 3, 5] false) (fun t => (t.res, requestedUs t.hist)) =
    some (2, 966) := by decide

/-! ## Synthesizer and indicator, 1.7, 2.4 to 2.8 -/

theorem test_syncfg_clamps_up : after (.syncfg 101 10001 13) sX (fun t => (t.duty, t.speed, t.transpose, t.synValid)) =
    some (100, 10000, 12, true) := by decide
theorem test_syncfg_clamps_down : after (.syncfg 0 0 (-128)) sX (fun t => (t.duty, t.speed, t.transpose)) =
    some (10, 25, -12) := by decide
theorem test_buzon : after .buzon sX (fun t => t.hist) = some [.dir .buzz .output, .level .buzz false] := by decide
/-- A tie keeps the lower index. -/
theorem test_transp_tie : after (.transp 453 0) sX (fun t => t.res) = some 440 := by decide +kernel
theorem test_transp_clamps : after (.transp 1480 12) sX (fun t => t.res) = some 2093 ∧
    after (.transp 440 (-128)) sX (fun t => t.res) = some 262 := by decide +kernel
theorem test_tone_wave : after (.tone 1000 3 25) sX (fun t => t.hist) =
    some (waveEvents 250 750 3) := by decide
/-- 65535 Hz for 1 ms at 10 percent: 65 cycles of 1 us high and 14 us low. -/
theorem test_tone_numbers : (toneHigh 65535 10, toneLow 65535 10, toneCycles 65535 1) = (1, 14, 65) ∧
    (toneHigh 3 33, toneLow 3 33, toneCycles 3 1000) = (109999, 223334, 3) := by decide
/-- SPEED = 10000 scales 99 ms to 0: no wave, but the indicator shows. -/
theorem test_note_scaled_to_nothing : after (.note 440 99) { sSyn with speed := 10000 } (fun t => (leds t, t.owner, t.hist.length)) =
    some ([false, true, false, false], .AIND, 5) := by decide +kernel
theorem test_note_refused : refusalOf (.note 440 32768) { sSyn with speed := 50 } = some .noteOutOfDomain ∧
    refusalOf (.note 440 500) sX = some .synthNotConfigured := by decide
theorem test_gap : after .gap { sSyn with speed := 49 } (fun t => t.hist.getLast?) = some (some (.wait 102000)) := by decide
theorem test_melend : after .melend { sX with owner := .AIND } (fun t => (shared t, t.hist.drop 4)) =
    some ((.input, .MIC, false), [.dir (.led 3) .input, .wait 1000, .recal]) := by decide
theorem test_melend_no_mic : after .melend { sNoMic with owner := .AIND } (fun t => (t.owner, t.hist.length)) =
    some (.AIND, 4) := by decide
/-- A threshold belongs to the upper band. -/
theorem test_aind_threshold : after (.aind 300) sX leds = some [false, true, false, false] ∧
    after (.aind 299) sX leds = some [true, false, false, false] := by decide
theorem test_aind_shared : after (.aind 800) sX (fun t => (t.drives (.led 3), t.owner)) = some (true, .AIND) := by decide
theorem test_aindoff : after .aindoff { sX with owner := .AIND, level := #v[false, false, false, true, true] }
    (fun t => (leds t, t.levelOf .buzz, t.owner)) = some ([false, false, false, false], true, .AIND) := by decide

/-! ## Witnesses: for each statement with hypotheses, concrete values that meet them, clause by clause -/

theorem test_witness_DecodeEncodeEveryCommand :
    (Instr.ledset 255 255).wellFormed = true ∧ (Instr.syncfg 255 65535 (-128)).wellFormed = true ∧
    (Instr.tone 65535 65535 255).wellFormed = true ∧ (Instr.note 65535 0).wellFormed = true ∧
    (Instr.transp 65535 127).wellFormed = true ∧ (Instr.aind 65535).wellFormed = true := by decide

theorem test_witness_DecodeOnlyEncodings : decode [0x22, 0xFF, 0x00, 0x10] = .ok (.ledset 255 0, [0x10]) := by decide

/-- The first and last byte of every reserved range, and its neighbours. -/
theorem test_witness_ReservedAndTruncatedRefused :
    ([0x00, 0x0F, 0x11, 0x1F, 0x24, 0x2F, 0x33, 0x3F, 0x49, 0xFF].all fun op => (Mnemonic.ofOpcode op).isNone) = true ∧
    ([0x10, 0x20, 0x23, 0x30, 0x32, 0x40, 0x48].all fun op => (Mnemonic.ofOpcode op).isSome) = true ∧
    1 < (Instr.ledset 0 0).length ∧ 5 < (Instr.tone 0 0 0).length ∧
    { sX with stream := [0x10, 0x24, 0x01], ci := 1 }.stream.drop 1 = [0x24, 0x01] := by decide

/-- A command that completes, and one that is refused, each at the index of its stream. -/
theorem test_witness_StepRunsDecodedCommand :
    decode ({ sX with stream := [0x44, 0x22, 0x01, 0x09], ci := 1 }.stream.drop 1) = .ok (.ledset 1 9, []) ∧
    (after (.ledset 1 9) (State.tickPoint { sX with stream := [0x44, 0x22, 0x01, 0x09], ci := 1 }) fun t => t.swp) = some true ∧
    decode ({ sX with stream := [0x44] }.stream.drop 0) = .ok (.gap, []) ∧
    refusalOf .gap (State.tickPoint { sX with stream := [0x44] }) = some .synthNotConfigured ∧
    sX.timerRun = false ∧ sX.tmask = false := by decide

/-- The unmasked machine after INIT at the end of its stream, the timer running; `ks`: the next tick counts. -/
def sTicking (ks : List Nat) : State := { sX with timerRun := true, env := { Env.fresh with ticks := ks } }

theorem test_witness_EndOfStreamIdles :
    sX.stream.length ≤ sX.ci ∧ { sX with stream := [0x10], ci := 1 }.stream.length ≤ 1 := by decide

/-- Every clause; of the last one, a choice of no TICK and a choice of three. -/
theorem test_witness_TickInterrupt :
    ({ sX with timerRun := true }.timerRun = true ∧ { sX with timerRun := true }.tmask = false) ∧
    ({ sX with timerRun := true, tmask := true }.tmask = true) ∧ sX.timerRun = false ∧
    (sTicking [0, 5]).env.ticks = 0 :: [5] ∧ ((sTicking [0, 5]).delay 9).hist = [.wait 9] ∧
    (sTicking [3]).env.ticks = 3 :: [] ∧ ((sTicking [3]).delay 0).hist = [.wait 0, .tick, .tick, .tick] ∧
    (sTicking [3]).tickPoint.ms = 3 ∧ (sTicking [3]).timerRun = true ∧ (sTicking [3]).tmask = false := by decide

theorem test_witness_ClockMovesByTicksOnly :
    (∃ t, exec .gap { sSyn with timerRun := true } = .next t) ∧ ∃ t, exec .init sX = .next t := ⟨⟨_, rfl⟩, _, rfl⟩

theorem test_witness_ElapsedAcrossRollover :
    (4294967295 : Nat) < 2 ^ 32 ∧ timedOut (0xFFFFFFFF + BitVec.ofNat 32 1) 0xFFFFFFFF 1 = true ∧
    timedOut (0xFFFFFFFF + BitVec.ofNat 32 1) 0xFFFFFFFF 2 = false := by decide

theorem test_witness_UpdateCountsSwapsAndDrives :
    after .update { sX with pwmcnt := 255 } (fun t => t.pwmcnt) = some 0 ∧
    after .update { sX with pwmcnt := 254 } (fun t => t.pwmcnt) = some 255 := by decide

/-- Both sides of the off-phase boundary, with and without a microphone. -/
theorem test_witness_UpdateArbitratesSharedPin :
    after .update { sX with pwmcnt := 2, active := #v[0, 0, 0, 3] } shared = some (.input, .MIC, true) ∧
    after .update { sX with pwmcnt := 1, active := #v[0, 0, 0, 3], safe := true } shared = some (.output, .LED, false) ∧
    after .update { sX with pwmcnt := 77, cfg := cfgDiv2, subcnt := 1 } shared = some (.input, .MIC, false) ∧
    after .update { sNoMic with safe := true } shared = some (.input, .LED, true) ∧ Pin.buzz ≠ sX.sharedPin := by decide

theorem test_witness_SharedPinExclusiveAfterUpdate :
    sX.cfg.micEnable = true ∧ after .update sX (fun t => (t.dirOf t.sharedPin, t.safe)) = some (.input, true) ∧
    after .update { sX with active := #v[0, 0, 0, 255] } (fun t => t.dirOf t.sharedPin) = some .output := by decide

/-- A swap to full brightness on the shared channel, and no swap with brightness 0. -/
theorem test_witness_PwmDutyOverCycle :
    ({ sX with pwmcnt := 255, swp := true, pending := #v[0, 0, 0, 255] }.pwmcnt = 255 ∧
      255 = (if { sX with swp := true }.swp then (#v[0, 0, 0, 255] : Vector Byte 4)[(3 : Fin 4)] else 0).toNat) ∧
    0 = (if sX.swp then sX.pending[(0 : Fin 4)] else sX.active[(0 : Fin 4)]).toNat ∧
    sX.cfg.micEnable = true ∧ (3 : Fin 4) = sX.cfg.sh ∧ 0 < 256 ∧ 255 < 256 ∧ 255 ≤ 255 ∧ 0 ≤ 0 := by decide

/-- At the start of a cycle with all 255 UPDATEs left, at its end with none, and in between. -/
theorem test_witness_DoubleBufferAtomic :
    sX.pwmcnt.toNat + 255 = 255 ∧ { sX with pwmcnt := 255 }.pwmcnt.toNat + 0 = 255 ∧
    { sX with pwmcnt := 99 }.pwmcnt.toNat + 1 ≤ 255 ∧ (0 : Fin 4).val = 0 := by decide

theorem test_witness_LedsetRequests : 255 ≤ 255 ∧ 3 < 4 ∧ 4 ≤ 4 := by decide

theorem test_witness_LastLedsetWins :
    (0 : Nat) ≠ 3 ∧ (0 : Nat) ≠ 4 ∧
    (match execAll [.ledset 2 128, .ledset 2 7] sX with | .next t => some t.pending | _ => none) = some #v[0, 0, 7, 0] := by decide

theorem test_witness_MicinitEffect : sX.cfg.micEnable = true ∧ Pin.led 0 ≠ sX.sharedPin ∧ Pin.buzz ≠ sX.sharedPin := by decide

theorem test_witness_MicCommandsNeedMicrophone : sNoMic.cfg.micEnable = false ∧ refusalOf .micread sNoMic = some .micNotBuilt := by
  decide

theorem test_witness_MicreadEffect :
    sX.cfg.micEnable = true ∧ after .micread (drawing [1023, 5] true) (fun t => (t.res, t.draw 0)) = some (1023, 5) := by decide

theorem test_witness_MicreadfMean :
    sX.cfg.micEnable = true ∧ after .micreadf (drawing [1023, 1023, 1023, 1023, 9] false) (fun t => (t.res, t.draw 0)) =
      some (1023, 9) := by decide

theorem test_witness_MicreadfOfOneIsMicread : { sX with cfg := cfgOne }.cfg.micFilterN = 1 := by decide

theorem test_witness_MicreadfRequestedDelay : (drawing [] true).cfg.micEnable = true ∧ (drawing [] false).safe = false := by decide

theorem test_witness_SafeReadAfterUpdate :
    sX.cfg.micEnable = true ∧ ∃ t, exec .update { sX with pwmcnt := 2, active := #v[0, 0, 0, 3] } = .next t ∧
      t.active[sX.cfg.sh] ≤ t.pwmcnt ∧ t.subcnt = 0 := ⟨rfl, _, rfl, by decide, by decide⟩

theorem test_witness_FreshFlagNoUnsafeSample :
    (drawing [7] true).SafeFresh ∧ NoUnsafeSample (drawing [7] true).hist ∧
    (∃ t, exec .micread (drawing [7] true) = .next t) ∧ Instr.micread ≠ .init := by
  refine ⟨fun _ => by decide, fun v => by simp [drawing, sX, State.reset], ⟨_, rfl⟩, by decide⟩

theorem test_witness_TranspResult :
    after (.transp 0 5) sX (fun t => t.res) = some 0 ∧ 1 ≤ 1 ∧ 1 ≤ 65535 := by decide

theorem test_witness_TransposeKeepsEntries : 0 < cfgX.nt ∧ 36 < cfgX.nt ∧ cfgX.nt = 37 := by decide

/-- The last entry that returns, the first that does not, both ends. -/
theorem test_witness_TransposeRoundTrip :
    24 + 12 ≤ cfgX.nt - 1 ∧ cfgX.nt - 1 < 25 + 12 ∧ 0 < cfgX.nt ∧ 36 < cfgX.nt ∧ 12 ≤ 12 := by decide

theorem test_witness_TransposeMonotone : 1 ≤ 1 ∧ 1 ≤ 65535 ∧ (-12 : Int) ≤ 12 := by decide

/-- A rest, a wave of one cycle, a wave of none. -/
theorem test_witness_ToneEffect :
    after (.tone 0 250 50) sX (fun t => t.hist) = some [.wait 250000] ∧ (1 ≤ 1000 ∧ 1 ≤ 1000 * 1 / 1000) ∧ 440 * 2 / 1000 = 0 := by
  decide

theorem test_witness_ToneArithmetic :
    (1 ≤ 65535 ∧ 65535 ≤ 65535 ∧ 65535 ≤ 65535 ∧ 10 ≤ 10 ∧ 10 ≤ 100) ∧ 1 ≤ 1 ∧ 100 ≤ 100 ∧ toneCycles 65535 65535 = 4294836 := by
  decide

/-- The largest admitted and the smallest refused scaled duration (2.6); a rest, a wave of no cycle and a wave of 220. -/
theorem test_witness_NoteEffect :
    (sSyn.synValid = true ∧ 65535 * 100 / sSyn.speed ≤ 65535) ∧
    (65535 < 32768 * 100 / { sSyn with speed := 50 }.speed ∧ 32767 * 100 / { sSyn with speed := 50 }.speed ≤ 65535) ∧
    sX.synValid = false ∧ transposeFreq sSyn.cfg 0 sSyn.transpose = 0 ∧
    toneCycles (transposeFreq sSyn.cfg 440 sSyn.transpose) (2 * 100 / sSyn.speed) = 0 ∧
    1 ≤ toneCycles (transposeFreq sSyn.cfg 440 sSyn.transpose) (500 * 100 / sSyn.speed) := by decide +kernel

theorem test_witness_GapEffect : sSyn.synValid = true ∧ sX.synValid = false := by decide

/-- 0, and both sides of every threshold (2.8). -/
theorem test_witness_AindEffect :
    after (.aind 0) sX leds = some [false, false, false, false] ∧ 299 < sX.cfg.bandT1 ∧
    (sX.cfg.bandT1 ≤ 300 ∧ 499 < sX.cfg.bandT2) ∧ (sX.cfg.bandT2 ≤ 500 ∧ 799 < sX.cfg.bandT3) ∧ sX.cfg.bandT3 ≤ 800 := by decide

theorem test_witness_MelendEffect : sX.cfg.micEnable = true ∧ sNoMic.cfg.micEnable = false := by decide

theorem test_witness_MelodyExpansionSize :
    [((440 : Nat), (500 : Nat)), (0, 500)] ≠ [] ∧ (melody 80 100 0 [(440, 500), (0, 500)]).length = 6 := by decide

theorem test_witness_MelodyScenario : 440 ∈ sX.cfg.chroma := by decide

theorem test_witness_WritersOfRegisters :
    (∃ t, exec .aindoff sX = .next t) ∧ Mnemonic.AINDOFF ∉ [Mnemonic.UPDATE, .LEDOFF, .INIT] := ⟨⟨_, rfl⟩, by decide⟩

/-- The three ways ACTIVE changes. -/
theorem test_witness_ActiveChangesOnlyAtBoundary :
    after .update { sX with pwmcnt := 255, swp := true, pending := #v[1, 0, 0, 0] } (fun t => t.active) = some #v[1, 0, 0, 0] ∧
    after .ledoff { sX with active := #v[1, 0, 0, 0] } (fun t => t.active) = some #v[0, 0, 0, 0] ∧
    after .init { sX with active := #v[1, 0, 0, 0] } (fun t => t.active) = some #v[0, 0, 0, 0] := by decide

/-- A state with every one-way bit set, before a command. -/
def sAllSet : State := { sSyn with
  timerRun := true, clkFull := true, adcReady := true, resValid := true
  dir := #v[.output, .output, .output, .input, .output], stream := [0x21] }

theorem test_witness_OneWayBits :
    sAllSet.timerRun = true ∧ sAllSet.clkFull = true ∧ sAllSet.adcReady = true ∧ sAllSet.synValid = true ∧
    sAllSet.resValid = true ∧ sAllSet.dirOf .buzz = .output ∧
    stepped { sAllSet with env := { Env.fresh with ticks := [2] } } (fun t => t.ms) = some 2 := by decide

theorem test_witness_HistoryOnlyGrows : stepped { sX with stream := [0x41] } (fun t => (t.hist.length, t.ci)) = some (2, 1) := by
  decide

theorem test_witness_HostReadsLastResult :
    after .millis sX (fun t => t.hostReadRes.toOption) = some (some 0) ∧ sX.resValid = false ∧
    Mnemonic.MILLIS ∈ [Mnemonic.MILLIS, .MICREAD, .MICREADF, .TRANSP] ∧
    Mnemonic.GAP ∉ [Mnemonic.MILLIS, .MICREAD, .MICREADF, .TRANSP] := by decide

theorem test_witness_StepKeepsInvariant :
    { sX with stream := [0x10] }.Inv ∧ ∃ t, step { sX with stream := [0x10] } = .next t := by
  refine ⟨?_, _, rfl⟩
  constructor <;> decide

theorem test_witness_StepKeepsHistoryFaithful :
    { sX with stream := [0x41] }.Faithful ∧ ∃ t, step { sX with stream := [0x41] } = .next t := by
  refine ⟨⟨rfl, fun p => ?_, fun p => ?_, rfl⟩, _, rfl⟩ <;>
    match p with
    | .buzz => rfl
    | .led 0 => rfl
    | .led 1 => rfl
    | .led 2 => rfl
    | .led 3 => rfl

/-- The idle run of a machine whose timer runs, the first two tick counts given. -/
def idleRun : Nat → State
  | 0 => sTicking [0, 2]
  | n + 1 => (idleRun n).tickPoint

theorem test_idle_run (n : Nat) : (idleRun n).stream = [] ∧ (idleRun n).ci = 0 ∧ (idleRun n).timerRun = true := by
  induction n with
  | zero => exact ⟨rfl, rfl, rfl⟩
  | succ n ih => simpa [idleRun] using ih

theorem test_witness_TickAgentWeaklyFair :
    IsRun idleRun ∧ (idleRun 0).tmask = false ∧ ∀ m, 0 ≤ m → (idleRun m).timerRun = true := by
  refine ⟨fun n => ?_, rfl, fun m _ => (test_idle_run m).2.2⟩
  have hf : (idleRun n).tickPoint.fetch = .error .endOfStream := by
    simp [State.fetch, (test_idle_run n).1, (test_idle_run n).2.1, decode]
  unfold step
  rw [hf]
  rfl

/-- States that differ in all six registers, one before and one after SYNCFG and a result; a NOTE refused, a GAP completed. -/
theorem test_witness_UnreadRegistersDoNotMatter :
    { sX with stream := [0x43, 0, 0, 0, 0] }.AgreeOnRead { sX with
      stream := [0x43, 0, 0, 0, 0], clkFull := true, pullSh := true, duty := 99, speed := 7, transpose := 5, res := 1 } ∧
    (∃ r, step { sX with stream := [0x43, 0, 0, 0, 0] } = .refused r) ∧
    { sSyn with stream := [0x44], resValid := true }.AgreeOnRead { sSyn with
      stream := [0x44], resValid := true, clkFull := true, pullSh := true } ∧
    ∃ t, step { sSyn with stream := [0x44], resValid := true } = .next t := by
  refine ⟨⟨rfl, fun h => ?_, fun h => ?_⟩, ⟨.synthNotConfigured, rfl⟩, ⟨rfl, fun _ => ⟨rfl, rfl, rfl⟩, fun _ => rfl⟩, _, rfl⟩ <;>
    cases h

end Sys2Proof.Tests
end

/-! The history tells the whole of the pins, the clock and the result (spec/10_state.md R46): what one more event does
to the last level, direction and result recorded, one rule per state operation that keeps `State.Faithful`, and from these the
statement that every step keeps it. -/

namespace Sys2Proof.Machine

/-! The last value recorded, after one more event (R46) -/

@[simp] theorem lastLevel_concat_level (p q : Pin) (v : Bool) (h : List Event) :
    lastLevel p (h ++ [.level q v]) = if p = q then v else lastLevel p h := by
  simp [lastLevel, eq_comm]

@[simp] theorem lastLevel_concat_of_ne (p : Pin) (h : List Event) {e : Event} (he : ∀ q v, e ≠ .level q v) :
    lastLevel p (h ++ [e]) = lastLevel p h := by
  cases e
  case level q v => exact absurd rfl (he q v)
  all_goals simp [lastLevel]

@[simp] theorem lastDir_concat_dir (p q : Pin) (d : Dir) (h : List Event) :
    lastDir p (h ++ [.dir q d]) = if p = q then d else lastDir p h := by
  simp [lastDir, eq_comm]

@[simp] theorem lastDir_concat_of_ne (p : Pin) (h : List Event) {e : Event} (he : ∀ q d, e ≠ .dir q d) :
    lastDir p (h ++ [e]) = lastDir p h := by
  cases e
  case dir q d => exact absurd rfl (he q d)
  all_goals simp [lastDir]

@[simp] theorem lastResult_concat_result (v : Word) (h : List Event) : lastResult (h ++ [.result v]) = some v := by
  simp [lastResult]

@[simp] theorem lastResult_concat_of_ne (h : List Event) {e : Event} (he : ∀ v, e ≠ .result v) :
    lastResult (h ++ [e]) = lastResult h := by
  cases e
  case result v => exact absurd rfl (he v)
  all_goals simp [lastResult]

/-! What the host reads, the levels and the directions, after the primitives (R14, R34, R35, R38). -/

/-- What the host reads depends on RES and its validity alone. R38. -/
theorem hostReadRes_congr {s t : State} (hres : t.res = s.res) (hvalid : t.resValid = s.resValid) :
    t.hostReadRes = s.hostReadRes := by
  simp [State.hostReadRes, hres, hvalid]

section
variable (s : State)

@[simp] theorem hostReadRes_emit (e : Event) : (s.emit e).hostReadRes = s.hostReadRes := rfl
@[simp] theorem hostReadRes_setLevel (p : Pin) (v : Bool) : (s.setLevel p v).hostReadRes = s.hostReadRes := rfl
@[simp] theorem hostReadRes_setDir (p : Pin) (d : Dir) : (s.setDir p d).hostReadRes = s.hostReadRes := rfl
@[simp] theorem hostReadRes_tick : s.tick.hostReadRes = s.hostReadRes := rfl
@[simp] theorem hostReadRes_returnValue (v : Word) : (s.returnValue v).hostReadRes = .ok v := rfl
@[simp] theorem levelOf_tick (p : Pin) : s.tick.levelOf p = s.levelOf p := rfl
@[simp] theorem levelOf_returnValue (v : Word) (p : Pin) : (s.returnValue v).levelOf p = s.levelOf p := rfl
@[simp] theorem dirOf_tick (p : Pin) : s.tick.dirOf p = s.dirOf p := rfl
@[simp] theorem dirOf_returnValue (v : Word) (p : Pin) : (s.returnValue v).dirOf p = s.dirOf p := rfl

end

namespace State.Faithful

variable {s t : State}

/-! The primitives (R14, R100) -/

/-- Whatever touches neither HIST nor a register it tells of keeps the history faithful. -/
theorem congr (h : s.Faithful) (hms : t.ms = s.ms := by simp) (hlevel : t.level = s.level := by simp)
    (hdir : t.dir = s.dir := by simp) (hres : t.res = s.res := by simp)
    (hvalid : t.resValid = s.resValid := by simp) (hhist : t.hist = s.hist := by simp) : t.Faithful where
  clock := by rw [hms, hhist, h.clock]
  levels p := by rw [levelOf_congr hlevel, hhist, h.levels]
  dirs p := by rw [dirOf_congr hdir, hhist, h.dirs]
  result := by rw [hostReadRes_congr hres hvalid, hhist, h.result]

theorem setOwner (h : s.Faithful) (o : Owner) : (s.setOwner o).Faithful := h.congr

theorem dropSafe (h : s.Faithful) : s.dropSafe.Faithful := h.congr

theorem raiseSafe (h : s.Faithful) : s.raiseSafe.Faithful := h.congr

theorem configureAdc (h : s.Faithful) : s.configureAdc.Faithful := h.congr

theorem takeSample (h : s.Faithful) : s.takeSample.Faithful := h.congr

/-- Wait, Sample and Recal tell of no register. -/
theorem emit (h : s.Faithful) {e : Event} (htick : e ≠ .tick := by simp) (hlevel : ∀ p v, e ≠ .level p v := by simp)
    (hdir : ∀ p d, e ≠ .dir p d := by simp) (hresult : ∀ v, e ≠ .result v := by simp) : (s.emit e).Faithful where
  clock := by simp [h.clock, htick]
  levels p := by simp [emit_levelOf, hlevel, h.levels]
  dirs p := by simp [emit_dirOf, hdir, h.dirs]
  result := by simp [hresult, h.result]

theorem setLevel (h : s.Faithful) (p : Pin) (v : Bool) : (s.setLevel p v).Faithful where
  clock := by simp [h.clock]
  levels q := by simp [levelOf_setLevel, h.levels]
  dirs q := by simp [setLevel_dirOf, h.dirs]
  result := by simp [h.result]

theorem setDir (h : s.Faithful) (p : Pin) (d : Dir) : (s.setDir p d).Faithful where
  clock := by simp [h.clock]
  levels q := by simp [setDir_levelOf, h.levels]
  dirs q := by simp [dirOf_setDir, h.dirs]
  result := by simp [h.result]

theorem returnValue (h : s.Faithful) (v : Word) : (s.returnValue v).Faithful where
  clock := by simp [h.clock]
  levels p := by simp [h.levels]
  dirs p := by simp [h.dirs]
  result := by simp [Except.toOption]

theorem tick (h : s.Faithful) : s.tick.Faithful where
  clock := by simp [h.clock, BitVec.ofNat_add]
  levels p := by simp [h.levels]
  dirs p := by simp [h.dirs]
  result := by simp [h.result]

/-! The tick agent (R70, R102, R186) -/

theorem tickDue (h : s.Faithful) : s.tickDue.Faithful := by
  unfold State.tickDue
  split
  · split
    · exact h.congr
    · exact h.tick
  · exact h

theorem ticksDue (h : s.Faithful) (k : Nat) : (s.ticksDue k).Faithful := by
  induction k generalizing s with
  | zero => exact h
  | succ k ih => exact ih h.tickDue

theorem tickPoint (h : s.Faithful) : s.tickPoint.Faithful := by
  unfold State.tickPoint
  split
  · exact (h.congr (t := s.takeTicks)).ticksDue _
  · exact h

theorem delay (h : s.Faithful) (us : Nat) : (s.delay us).Faithful := (h.emit (e := .wait us)).tickPoint

theorem unmaskTick (h : s.Faithful) : s.unmaskTick.Faithful := by
  unfold State.unmaskTick
  split
  · exact (h.congr (t := { s with tmask := false, tpend := false })).tickDue
  · exact h.congr

/-! The pins' shared operations (R110, R112, R113, R158, R160) -/

theorem writeLeds (h : s.Faithful) (f : Fin 4 → Bool) : (s.writeLeds f).Faithful :=
  (((h.setLevel _ _).setLevel _ _).setLevel _ _).setLevel _ _

theorem ledsOut (h : s.Faithful) : s.ledsOut.Faithful :=
  (((h.setDir _ _).setDir _ _).setDir _ _).setDir _ _

theorem arbitrateSharedPin (h : s.Faithful) : s.arbitrateSharedPin.Faithful := by
  unfold State.arbitrateSharedPin
  split
  · split
    · exact ((h.setDir _ _).setOwner _).dropSafe
    · exact ((h.setDir _ _).setOwner _).raiseSafe
  · exact h.setOwner _

theorem indicateOff (h : s.Faithful) : s.indicateOff.Faithful := h.writeLeds _

theorem indicate (h : s.Faithful) (f : Nat) : (s.indicate f).Faithful :=
  ((h.setDir _ _).setOwner _).writeLeds _

/-! The wave (R150) -/

theorem waveCycle (h : s.Faithful) (high low : Nat) : (s.waveCycle high low).Faithful :=
  (((h.setLevel _ _).delay _).setLevel _ _).delay _

theorem wave (h : s.Faithful) (high low k : Nat) : (s.wave high low k).Faithful := by
  induction k generalizing s with
  | zero => exact h
  | succ k ih => exact ih (h.waveCycle high low)

theorem playTone (h : s.Faithful) (f d duty : Nat) : (s.playTone f d duty).Faithful := by
  unfold State.playTone
  split
  · exact h.delay _
  · exact h.wave _ _ _

/-! The microphone (R130, R133, R137) -/

theorem micHandover (h : s.Faithful) : s.micHandover.Faithful :=
  ((h.setDir _ _).setOwner _).configureAdc.delay _

theorem readOne (h : s.Faithful) : s.readOne.1.Faithful := by
  have hwait : (if s.safe then s else s.delay s.cfg.micWaitUs).Faithful := by
    split
    · exact h
    · exact h.delay _
  exact (hwait.dropSafe.delay s.cfg.adcConvUs).takeSample.emit

theorem readMany (h : s.Faithful) (sum n : Nat) : (s.readMany sum n).1.Faithful := by
  induction s, sum, n using State.readMany.induct with
  | case1 s sum => exact h
  | case2 s sum => exact h.readOne
  | case3 s sum n ih => exact ih (h.readOne.delay _)

end State.Faithful

/-! Commands and steps -/

theorem exec_keeps_faithful {i : Instr} {s t : State} (hs : s.Faithful) (h : exec i s = .next t) : t.Faithful := by
  rcases exec_cases h with ⟨-, rfl⟩ | ⟨-, rfl⟩ | ⟨-, rfl⟩ | ⟨_, _, -, ⟨-, c, b, rfl⟩ | ⟨-, rfl⟩⟩ | ⟨-, rfl⟩ | ⟨-, -, rfl⟩ |
    ⟨-, -, _, rfl⟩ | ⟨-, -, _, rfl⟩ | ⟨_, _, _, -, rfl⟩ | ⟨-, rfl⟩ | ⟨_, _, _, -, rfl⟩ | ⟨_, _, _, _, -, -, -, rfl⟩ |
    ⟨_, -, -, rfl⟩ | ⟨-, -, rfl⟩ | ⟨-, -, rfl⟩ | ⟨_, _, _, -, rfl⟩ | ⟨_, -, rfl⟩ | ⟨-, rfl⟩
  · -- MILLIS
    exact ((hs.congr (t := s.maskTick)).returnValue s.ms).unmaskTick
  · -- INIT
    exact (hs.congr (t := s.fullClock.zeroBanks.clearSwp)).ledsOut.congr
  · -- UPDATE
    exact ((hs.congr (t := s.advancePwm)).writeLeds _).arbitrateSharedPin
  · -- LEDSET, a channel
    exact hs.congr
  · -- LEDSET, no channel
    exact hs
  · -- LEDOFF
    exact (hs.congr (t := s.zeroBanks)).writeLeds _
  · -- MICINIT
    exact hs.micHandover
  · -- MICREAD
    exact hs.readOne.returnValue _
  · -- MICREADF
    exact (hs.readMany _ _).returnValue _
  · -- SYNCFG
    exact hs.congr
  · -- BUZON
    exact (hs.setDir _ _).setLevel _ _
  · -- TONE
    exact hs.playTone _ _ _
  · -- NOTE
    exact (hs.indicate _).playTone _ _ _
  · -- GAP
    exact hs.indicateOff.playTone _ _ _
  · -- MELEND, with a microphone
    exact hs.indicateOff.micHandover.emit
  · -- MELEND, without
    exact hs.indicateOff
  · -- TRANSP
    exact hs.returnValue _
  · -- AIND
    exact hs.indicate _
  · -- AINDOFF
    exact hs.indicateOff

/-- Settles O55: the turn of the tick agent keeps the history faithful, and so does every command. -/
theorem stepKeepsHistoryFaithful : Obligations.StepKeepsHistoryFaithful := by
  unfold Obligations.StepKeepsHistoryFaithful
  intro s t hs h
  rcases step_cases h with ⟨i, _, u, _, hu, rfl⟩ | ⟨_, rfl⟩
  · exact (exec_keeps_faithful hs.tickPoint hu).congr
  · exact hs.tickPoint

end Sys2Proof.Machine

/-! The history only grows (spec/10_state.md R46, R64): every command keeps the stream, the parameters and the index and appends
to HIST, and the step moves the index past the command. -/

namespace Sys2Proof

/-! The longest command (R80) -/

theorem Format.length_le (f : Format) : f.length ≤ 6 := by cases f <;> decide

theorem Instr.length_le (i : Instr) : i.length ≤ 6 := i.mnemonic.format.length_le

end Sys2Proof

namespace Sys2Proof.Machine

/-! The operations that only commands use (R102, R113) -/

theorem grow_unmaskTick (s : State) : Grow s s.unmaskTick := by
  unfold State.unmaskTick
  split
  · exact (Grow.of s { s with tmask := false, tpend := false } [] (by simp) rfl rfl rfl).trans (grow_tickDue _)
  · exact .of _ _ [] (by simp) rfl rfl rfl

theorem grow_writeLeds (s : State) (f : Fin 4 → Bool) : Grow s (s.writeLeds f) :=
  .of _ _ _ (writeLeds_hist_ledEvents s f) (by simp) (by simp) (by simp)

theorem grow_arbitrateSharedPin (s : State) : Grow s s.arbitrateSharedPin := by
  unfold State.arbitrateSharedPin
  split
  · split
    · exact .of _ _ [.dir s.sharedPin .output] rfl rfl rfl rfl
    · exact .of _ _ [.dir s.sharedPin .input] (by simp) (by simp) (by simp) (by simp)
  · exact .of _ _ [] (by simp) rfl rfl rfl

/-! Commands and steps -/

theorem grow_exec {i : Instr} {s t : State} (h : exec i s = .next t) : Grow s t := by
  rcases exec_cases h with ⟨-, rfl⟩ | ⟨-, rfl⟩ | ⟨-, rfl⟩ | ⟨_, _, -, ⟨-, _, _, rfl⟩ | ⟨-, rfl⟩⟩ | ⟨-, rfl⟩ | ⟨-, -, rfl⟩ |
    ⟨-, -, _, rfl⟩ | ⟨-, -, _, rfl⟩ | ⟨_, _, _, -, rfl⟩ | ⟨-, rfl⟩ | ⟨_, _, _, -, rfl⟩ | ⟨_, _, _, _, -, -, -, rfl⟩ |
    ⟨_, -, -, rfl⟩ | ⟨-, -, rfl⟩ | ⟨-, -, rfl⟩ | ⟨_, _, _, -, rfl⟩ | ⟨_, -, rfl⟩ | ⟨-, rfl⟩
  · -- MILLIS
    exact (Grow.of s (s.maskTick.returnValue s.ms) [.result s.ms] rfl rfl rfl rfl).trans (grow_unmaskTick _)
  · -- INIT
    exact .of _ _ [.dir (.led 0) .output, .dir (.led 1) .output, .dir (.led 2) .output, .dir (.led 3) .output] (by simp)
      (by simp) (by simp) (by simp)
  · -- UPDATE
    exact ((Grow.of s s.advancePwm [] (by simp) (by simp) (by simp) (by simp)).trans (grow_writeLeds _ _)).trans
      (grow_arbitrateSharedPin _)
  · -- LEDSET, a channel
    exact .of _ _ [] (by simp) rfl rfl rfl
  · -- LEDSET, no channel
    exact .refl _
  · -- LEDOFF
    exact (Grow.of s s.zeroBanks [] (by simp) rfl rfl rfl).trans (grow_writeLeds _ _)
  · -- MICINIT
    exact grow_micHandover s
  · -- MICREAD
    exact (grow_readOne s).trans (grow_returnValue _ _)
  · -- MICREADF
    exact (grow_readMany s _ _).trans (grow_returnValue _ _)
  · -- SYNCFG
    exact .of _ _ [] (by simp) rfl rfl rfl
  · -- BUZON
    exact .of _ _ [.dir .buzz .output, .level .buzz false] (by simp) rfl rfl rfl
  · -- TONE
    exact grow_playTone s _ _ _
  · -- NOTE
    exact (grow_indicate s _).trans (grow_playTone _ _ _ _)
  · -- GAP
    exact (grow_indicateOff s).trans (grow_playTone _ _ _ _)
  · -- MELEND, with a microphone
    exact ((grow_indicateOff s).trans (grow_micHandover _)).trans (.of _ _ [.recal] rfl rfl rfl rfl)
  · -- MELEND, without
    exact grow_indicateOff s
  · -- TRANSP
    exact grow_returnValue s _
  · -- AIND
    exact grow_indicate s _
  · -- AINDOFF
    exact grow_indicateOff s

/-- Settles O49: the tick agent's turn and the command only append; then the index moves on by the command's length. -/
theorem historyOnlyGrows : Obligations.HistoryOnlyGrows := by
  unfold Obligations.HistoryOnlyGrows
  intro s t h
  rcases step_cases h with ⟨i, _, u, _, hu, rfl⟩ | ⟨_, rfl⟩
  · obtain ⟨hhist, hstream, hcfg, hci⟩ := (grow_tickPoint s).trans (grow_exec hu)
    have hlen := i.length_le
    have hmove : (u.passCommand i).ci = s.ci + i.length := by rw [passCommand_ci, hci]
    exact ⟨hhist, hstream, hcfg, by omega, by omega⟩
  · obtain ⟨hhist, hstream, hcfg, hci⟩ := grow_tickPoint s
    exact ⟨hhist, hstream, hcfg, by omega, by omega⟩

end Sys2Proof.Machine

/-! The machine's invariant `State.Inv` (spec/10_state.md R25 to R47): it holds at reset, one rule per state operation that keeps
it, and from these the statement that every step keeps it. -/

namespace Sys2Proof

/-! Lengths (R80, R87) -/

/-- A command is as long as its encoding. R80. -/
theorem encode_length (i : Instr) : (encode i).length = i.length := by cases i <;> rfl

/-- What decodes to a command begins with that command's encoding. R80, R82. -/
theorem eq_encode_append_of_decode {bs rest : List Byte} {i : Instr} (h : decode bs = .ok (i, rest)) :
    bs = encode i ++ rest := by
  cases bs with
  | nil => cases h
  | cons op bs =>
    simp only [decode] at h
    split at h
    · cases h
    · next m hm =>
      split at h
      · cases h
      · next hr =>
        cases h
        obtain ⟨rfl, -, rfl⟩ := decodeOperands_spec hr
        rw [← ofOpcode_some hm]
        rfl

end Sys2Proof

namespace Sys2Proof.Machine

/-- A command that decodes at the command index ends within the stream. R44, R80. -/
theorem ci_add_length_le {s : State} {i : Instr} {rest : List Byte} (h : decode (s.stream.drop s.ci) = .ok (i, rest))
    (hci : s.ci ≤ s.stream.length) : s.ci + i.length ≤ s.stream.length := by
  have hlen := congrArg List.length (eq_encode_append_of_decode h)
  rw [List.length_drop, List.length_append, encode_length] at hlen
  omega

/-! The clamps of SYNCFG (R145) -/

theorem clampDuty_range (duty : Nat) : 10 ≤ clampDuty duty ∧ clampDuty duty ≤ 100 := by
  unfold clampDuty clamp dutyMin dutyMax
  split
  · omega
  · split <;> omega

theorem clampSpeed_range (speed : Nat) : 25 ≤ clampSpeed speed ∧ clampSpeed speed ≤ 10000 := by
  unfold clampSpeed clamp speedMin speedMax
  split
  · omega
  · split <;> omega

theorem clampSemitones_range (n : Int) : -12 ≤ clampSemitones n ∧ clampSemitones n ≤ 12 := by
  unfold clampSemitones clampInt trMin trMax
  split
  · omega
  · split <;> omega

/-- With mask and latch down, MILLIS returns its value and takes no held tick. R102, R186. -/
theorem unmaskTick_returnValue_maskTick {s : State} (hm : s.tmask = false) (hp : s.tpend = false) (v : Word) :
    (s.maskTick.returnValue v).unmaskTick = s.returnValue v := by
  unfold State.unmaskTick
  rw [if_neg (by simp [hp])]
  apply State.ext <;> simp [hm]

namespace State.Inv

variable {s : State}

/-! The primitives (R14, R100) -/

/-- The registers, pins and history that no clause speaks of are free to change. -/
theorem congr (h : s.Inv) {t : State} (ht : t = { s with
    active := t.active, pending := t.pending, pwmcnt := t.pwmcnt, pullSh := t.pullSh, swp := t.swp, level := t.level,
    res := t.res, resValid := t.resValid, hist := t.hist, env := t.env } := by rfl) : t.Inv := by
  rw [ht]
  exact { h with }

theorem emit (h : s.Inv) (e : Event) : (s.emit e).Inv := h.congr

theorem setLevel (h : s.Inv) (p : Pin) (v : Bool) : (s.setLevel p v).Inv := h.congr

theorem returnValue (h : s.Inv) (v : Word) : (s.returnValue v).Inv := h.congr

theorem dropSafe (h : s.Inv) : s.dropSafe.Inv := { h with safeMic := nofun }

/-- SAFE is raised only in a build with a microphone. R113. -/
theorem raiseSafe (h : s.Inv) (hmic : s.cfg.micEnable = true) : s.raiseSafe.Inv := by
  unfold State.raiseSafe
  split
  · exact { h with safeMic := fun _ => hmic }
  · exact h

/-- The converter is configured only in a build with a microphone. R28, R130. -/
theorem configureAdc (h : s.Inv) (hmic : s.cfg.micEnable = true) : s.configureAdc.Inv := { h with adcMic := fun _ => hmic }

/-- The shared pin's owner changes together with its direction. R36. -/
theorem handSharedPin (h : s.Inv) (d : Dir) (o : Owner) (hmic : o = .MIC → s.cfg.micEnable = true ∧ d = .input)
    (haind : o = .AIND → d = .output) : ((s.setDir s.sharedPin d).setOwner o).Inv := by
  have hd : ((s.setDir s.sharedPin d).setOwner o).dirOf s.sharedPin = d := by
    simp [State.dirOf]
  exact { h with
    ownerMic := fun ho => ⟨(hmic ho).1, hd.trans (hmic ho).2⟩
    ownerAind := fun ho => hd.trans (haind ho) }

/-- The LED driver owns the shared pin in either direction. R36. -/
theorem setOwner_led (h : s.Inv) : (s.setOwner .LED).Inv := { h with ownerMic := nofun, ownerAind := nofun }

/-- BUZZ is not the shared pin. R33. -/
theorem setDir_buzz (h : s.Inv) (d : Dir) : (s.setDir .buzz d).Inv := by
  have hd : (s.setDir .buzz d).dirOf s.sharedPin = s.dirOf s.sharedPin := by
    rw [dirOf_setDir, if_neg (by simp [State.sharedPin])]
  exact { h with
    ownerMic := fun ho => ⟨(h.ownerMic ho).1, hd.trans (h.ownerMic ho).2⟩
    ownerAind := fun ho => hd.trans (h.ownerAind ho) }

/-- MS moves only while the timer runs. R100. -/
theorem tick (h : s.Inv) (hr : s.timerRun = true) : s.tick.Inv :=
  { h with clockStopped := fun hs => absurd hs (by simp [hr]) }

/-! The tick agent (R70, R186) -/

/-- The mask is down, so that a due tick is taken at once and the latch stays down. -/
theorem tickDue (h : s.Inv) : s.tickDue.Inv := by
  unfold State.tickDue
  split
  · next hr =>
    rw [if_neg (by simp [h.unmasked.1])]
    exact h.tick hr
  · exact h

theorem ticksDue (h : s.Inv) (k : Nat) : (s.ticksDue k).Inv := by
  induction k generalizing s with
  | zero => exact h
  | succ k ih => exact ih h.tickDue

theorem tickPoint (h : s.Inv) : s.tickPoint.Inv := by
  unfold State.tickPoint
  split
  · exact (h.congr (t := s.takeTicks)).ticksDue _
  · exact h

theorem delay (h : s.Inv) (us : Nat) : (s.delay us).Inv := (h.emit (.wait us)).tickPoint

/-! PWM and the shared pin (R110, R112, R113, R158, R160) -/

theorem writeLeds (h : s.Inv) (f : Fin 4 → Bool) : (s.writeLeds f).Inv :=
  (((h.setLevel _ _).setLevel _ _).setLevel _ _).setLevel _ _

theorem countCycle (h : s.Inv) : s.countCycle.Inv := { h with subcnt := Nat.mod_lt _ s.cfg.sampleDiv_pos }

theorem swapBanks (h : s.Inv) : s.swapBanks.Inv := by
  unfold State.swapBanks
  split
  · exact h.congr
  · exact h

theorem advancePwm (h : s.Inv) : s.advancePwm.Inv := by
  have hstep : s.countStep.Inv := h.congr
  unfold State.advancePwm
  split
  · exact hstep.countCycle.swapBanks
  · exact hstep

theorem arbitrateSharedPin (h : s.Inv) : s.arbitrateSharedPin.Inv := by
  unfold State.arbitrateSharedPin
  split
  · next hmic =>
    split
    · exact (h.handSharedPin .output .LED nofun nofun).dropSafe
    · exact (h.handSharedPin .input .MIC (fun _ => ⟨hmic, rfl⟩) nofun).raiseSafe hmic
  · exact h.setOwner_led

/-- INIT starts the timer at full clock and gives the shared pin to the LED driver. R110. -/
theorem init (h : s.Inv) : (s.fullClock.zeroBanks.clearSwp.ledsOut.setOwner .LED).startTimer.initAdc.Inv where
  subcnt := by simpa using h.subcnt
  duty := by simpa using h.duty
  speed := by simpa using h.speed
  transpose := by simpa using h.transpose
  unmasked := by simpa using h.unmasked
  clockStopped := by simp
  clockFull := by simp
  ownerMic := by simp
  ownerAind := by simp
  safeMic := by simpa using h.safeMic
  adcMic := by simpa [or_imp] using h.adcMic
  index := by simpa using h.index

theorem indicate (h : s.Inv) (f : Nat) : (s.indicate f).Inv :=
  (h.handSharedPin .output .AIND nofun fun _ => rfl).writeLeds _

theorem indicateOff (h : s.Inv) : s.indicateOff.Inv := h.writeLeds _

/-! The wave (R150) -/

theorem waveCycle (h : s.Inv) (high low : Nat) : (s.waveCycle high low).Inv :=
  (((h.setLevel _ _).delay _).setLevel _ _).delay _

theorem wave (h : s.Inv) (high low k : Nat) : (s.wave high low k).Inv := by
  induction k generalizing s with
  | zero => exact h
  | succ k ih => exact ih (h.waveCycle high low)

theorem playTone (h : s.Inv) (f d duty : Nat) : (s.playTone f d duty).Inv := by
  unfold State.playTone
  split
  · exact h.delay _
  · exact h.wave _ _ _

/-- SYNCFG holds the clamped values. R145. -/
theorem configure (h : s.Inv) (duty speed : Nat) (n : Int) :
    { s with duty := clampDuty duty, speed := clampSpeed speed, transpose := clampSemitones n, synValid := true }.Inv :=
  { h with
    duty := fun _ => clampDuty_range duty
    speed := fun _ => clampSpeed_range speed
    transpose := fun _ => clampSemitones_range n }

/-! The microphone (R130, R133, R137) -/

theorem micHandover (h : s.Inv) (hmic : s.cfg.micEnable = true) : s.micHandover.Inv :=
  ((h.handSharedPin .input .MIC (fun _ => ⟨hmic, rfl⟩) nofun).configureAdc hmic).delay _

theorem readOne (h : s.Inv) : s.readOne.1.Inv := by
  have hwait : (if s.safe then s else s.delay s.cfg.micWaitUs).Inv := by
    split
    · exact h
    · exact h.delay _
  exact (hwait.dropSafe.delay s.cfg.adcConvUs).congr

theorem readMany (h : s.Inv) (sum n : Nat) : (s.readMany sum n).1.Inv := by
  induction s, sum, n using State.readMany.induct with
  | case1 s sum => exact h
  | case2 s sum => exact h.readOne
  | case3 s sum n ih => exact ih (h.readOne.delay _)

end State.Inv

/-! Reset, commands and steps -/

/-- Settles O52: the values of R47 meet every clause, whatever the parameters. -/
theorem invariantAtReset : Obligations.InvariantAtReset := by
  unfold Obligations.InvariantAtReset
  exact {
    subcnt := Config.chip.sampleDiv_pos
    duty := nofun
    speed := nofun
    transpose := nofun
    unmasked := ⟨rfl, rfl⟩
    clockStopped := fun _ => rfl
    clockFull := nofun
    ownerMic := nofun
    ownerAind := nofun
    safeMic := nofun
    adcMic := nofun
    index := Nat.le_refl _ }

theorem exec_keeps_inv {i : Instr} {s t : State} (hs : s.Inv) (h : exec i s = .next t) : t.Inv := by
  rcases exec_cases h with ⟨-, rfl⟩ | ⟨-, rfl⟩ | ⟨-, rfl⟩ | ⟨_, _, -, ⟨-, c, b, rfl⟩ | ⟨-, rfl⟩⟩ | ⟨-, rfl⟩ | ⟨hmic, -, rfl⟩ |
    ⟨-, -, _, rfl⟩ | ⟨-, -, _, rfl⟩ | ⟨_, _, _, -, rfl⟩ | ⟨-, rfl⟩ | ⟨_, _, _, -, rfl⟩ | ⟨_, _, _, _, -, -, -, rfl⟩ |
    ⟨_, -, -, rfl⟩ | ⟨hmic, -, rfl⟩ | ⟨-, -, rfl⟩ | ⟨_, _, _, -, rfl⟩ | ⟨_, -, rfl⟩ | ⟨-, rfl⟩
  · -- MILLIS
    rw [unmaskTick_returnValue_maskTick hs.unmasked.1 hs.unmasked.2]
    exact hs.returnValue _
  · -- INIT
    exact hs.init
  · -- UPDATE
    exact (hs.advancePwm.writeLeds _).arbitrateSharedPin
  · -- LEDSET, a channel
    exact hs.congr (t := (s.setPending c b).raiseSwp)
  · -- LEDSET, no channel
    exact hs
  · -- LEDOFF
    exact (hs.congr (t := s.zeroBanks)).writeLeds _
  · -- MICINIT
    exact hs.micHandover hmic
  · -- MICREAD
    exact hs.readOne.returnValue _
  · -- MICREADF
    exact (hs.readMany _ _).returnValue _
  · -- SYNCFG
    exact hs.configure _ _ _
  · -- BUZON
    exact (hs.setDir_buzz _).setLevel _ _
  · -- TONE
    exact hs.playTone _ _ _
  · -- NOTE
    exact (hs.indicate _).playTone _ _ _
  · -- GAP
    exact hs.indicateOff.playTone _ _ _
  · -- MELEND, with a microphone
    exact (hs.indicateOff.micHandover hmic).emit _
  · -- MELEND, without
    exact hs.indicateOff
  · -- TRANSP
    exact hs.returnValue _
  · -- AIND
    exact hs.indicate _
  · -- AINDOFF
    exact hs.indicateOff

/-- Settles O53: the turn of the tick agent keeps the invariant, and so does every command; the index passes a command that lies
within the stream. -/
theorem stepKeepsInvariant : Obligations.StepKeepsInvariant := by
  unfold Obligations.StepKeepsInvariant
  intro s t hs h
  rcases step_cases h with ⟨i, _, u, hd, hu, rfl⟩ | ⟨_, rfl⟩
  · obtain ⟨-, hstream, -, hci⟩ := grow_exec hu
    refine { exec_keeps_inv hs.tickPoint hu with index := ?_ }
    simpa [hci, hstream] using ci_add_length_le hd hs.index
  · exact hs.tickPoint

end Sys2Proof.Machine

/-! What a command writes and what it leaves (spec/10_state.md R20 to R38): register by register, pin by pin, and from this the
statements about ACTIVE, the bits that are never cleared, and the host's read of RES. -/

namespace Sys2Proof.Machine

/-- The shared pin is an LED pin, never BUZZ. R33. -/
theorem buzz_ne_sharedPin (s : State) : Pin.buzz ≠ s.sharedPin := nofun

/-- UPDATE leaves BUZZ's direction. R113. -/
theorem dirOf_arbitrateSharedPin_buzz (s : State) : s.arbitrateSharedPin.dirOf .buzz = s.dirOf .buzz := by
  have hset (d : Dir) : (s.setDir s.sharedPin d).dirOf .buzz = s.dirOf .buzz := by
    rw [dirOf_setDir, if_neg (buzz_ne_sharedPin s)]
  unfold State.arbitrateSharedPin
  split
  · split
    · exact hset .output
    · exact (dirOf_congr (by simp) _).trans (hset .input)
  · rfl

/-- From `s` to `t` every register that the command `m` does not write is the same, pins as whole banks. R20 to R38. -/
structure WritesOnly (m : Mnemonic) (s t : State) : Prop where
  active : m ∉ [.UPDATE, .LEDOFF, .INIT] → t.active = s.active
  pending : m ∉ [.LEDSET, .LEDOFF, .INIT] → t.pending = s.pending
  pwm : m ≠ .UPDATE → t.pwmcnt = s.pwmcnt ∧ t.subcnt = s.subcnt
  timer : m ≠ .INIT → t.timerRun = s.timerRun ∧ t.clkFull = s.clkFull
  adcReady : m ∉ [.INIT, .MICINIT, .MELEND] → t.adcReady = s.adcReady
  pullSh : m ∉ [.MICINIT, .MELEND] → t.pullSh = s.pullSh
  swp : m ∉ [.LEDSET, .UPDATE, .INIT] → t.swp = s.swp
  safe : m ∉ [.UPDATE, .MICREAD, .MICREADF] → t.safe = s.safe
  owner : m ∉ [.UPDATE, .INIT, .MICINIT, .MELEND, .AIND, .NOTE] → t.owner = s.owner
  synth : m ≠ .SYNCFG → t.duty = s.duty ∧ t.speed = s.speed ∧ t.transpose = s.transpose ∧ t.synValid = s.synValid
  result : m ∉ [.MILLIS, .MICREAD, .MICREADF, .TRANSP] → t.res = s.res ∧ t.resValid = s.resValid
  dir : m ∉ [.BUZON, .INIT, .UPDATE, .MICINIT, .AIND, .NOTE, .MELEND] → t.dir = s.dir
  level : m ∉ [.BUZON, .TONE, .UPDATE, .LEDOFF, .AIND, .AINDOFF, .NOTE, .GAP, .MELEND] → t.level = s.level

/-- Register by register a command's writes are those of its operations. -/
theorem exec_writesOnly {i : Instr} {s t : State} (h : exec i s = .next t) : WritesOnly i.mnemonic s t := by
  rcases exec_cases h with ⟨rfl, rfl⟩ | ⟨rfl, rfl⟩ | ⟨rfl, rfl⟩ | ⟨_, _, rfl, ⟨-, _, _, rfl⟩ | ⟨-, rfl⟩⟩ | ⟨rfl, rfl⟩ |
    ⟨-, rfl, rfl⟩ | ⟨-, rfl, _, rfl⟩ | ⟨-, rfl, _, rfl⟩ | ⟨_, _, _, rfl, rfl⟩ | ⟨rfl, rfl⟩ | ⟨_, _, _, rfl, rfl⟩ |
    ⟨_, _, _, _, rfl, -, -, rfl⟩ | ⟨_, rfl, -, rfl⟩ | ⟨-, rfl, rfl⟩ | ⟨-, rfl, rfl⟩ | ⟨_, _, _, rfl, rfl⟩ | ⟨_, rfl, rfl⟩ |
    ⟨rfl, rfl⟩ <;> constructor <;> simp [Instr.mnemonic]

/-- BUZON alone writes the direction of BUZZ. R34, R146. -/
theorem exec_dirOf_buzz {i : Instr} {s t : State} (h : exec i s = .next t) (hi : i.mnemonic ≠ .BUZON) :
    t.dirOf .buzz = s.dirOf .buzz := by
  have hsh : ¬ Pin.buzz = s.sharedPin := buzz_ne_sharedPin s
  cases i
  case buzon => exact absurd rfl hi
  case init =>
    cases h
    exact dirOf_init_buzz s
  case update =>
    cases h
    exact (dirOf_arbitrateSharedPin_buzz _).trans (dirOf_congr (by simp) _)
  case micinit =>
    obtain ⟨-, rfl⟩ := by simpa using exec_cases h
    rw [dirOf_micHandover, if_neg hsh]
  case note f d =>
    obtain ⟨-, -, g, e, rfl⟩ := by simpa using exec_cases h
    rw [playTone_dirOf, dirOf_indicate, if_neg hsh]
  case melend =>
    obtain ⟨-, rfl⟩ | ⟨-, rfl⟩ := by simpa using exec_cases h
    · rw [emit_dirOf, dirOf_micHandover, if_neg (buzz_ne_sharedPin _), indicateOff_dirOf]
    · exact indicateOff_dirOf s _
  case aind f =>
    cases h
    rw [dirOf_indicate, if_neg hsh]
  all_goals exact dirOf_congr ((exec_writesOnly h).dir (by simp [Instr.mnemonic])) _

/-- BUZON and the wave alone write the level of BUZZ. R35, R146, R150. -/
theorem exec_levelOf_buzz {i : Instr} {s t : State} (h : exec i s = .next t) (hi : i.mnemonic ∉ [.BUZON, .TONE, .NOTE]) :
    t.levelOf .buzz = s.levelOf .buzz := by
  cases i
  case buzon | tone | note => simp [Instr.mnemonic] at hi
  case update =>
    cases h
    rw [levelOf_congr (arbitrateSharedPin_level _), levelOf_writeLeds_buzz]
    exact levelOf_congr (by simp) _
  case ledoff =>
    cases h
    exact levelOf_zeroBanks_writeLeds_buzz s _
  case gap =>
    obtain ⟨-, e, rfl⟩ := by simpa using exec_cases h
    rw [playTone_rest_levelOf, levelOf_indicateOff_buzz]
  case melend =>
    obtain ⟨-, rfl⟩ | ⟨-, rfl⟩ := by simpa using exec_cases h
    · rw [emit_levelOf, micHandover_levelOf, levelOf_indicateOff_buzz]
    · exact levelOf_indicateOff_buzz s
  case aind f =>
    cases h
    exact levelOf_indicate_buzz s f
  case aindoff =>
    cases h
    exact levelOf_indicateOff_buzz s
  all_goals exact levelOf_congr ((exec_writesOnly h).level (by simp [Instr.mnemonic])) _

/-- BUZON writes no LED pin's direction. R34. -/
theorem exec_dirOf_led {i : Instr} {s t : State} (h : exec i s = .next t)
    (hi : i.mnemonic ∉ [.INIT, .UPDATE, .MICINIT, .AIND, .NOTE, .MELEND]) (c : Fin 4) :
    t.dirOf (.led c) = s.dirOf (.led c) := by
  by_cases hbuzon : i.mnemonic = .BUZON
  · cases i <;> cases hbuzon
    cases h
    rw [setLevel_dirOf, dirOf_setDir, if_neg nofun]
  · exact dirOf_congr ((exec_writesOnly h).dir (by simp [hbuzon, hi])) _

/-- BUZON and the wave write no LED pin's level. R35. -/
theorem exec_levelOf_led {i : Instr} {s t : State} (h : exec i s = .next t)
    (hi : i.mnemonic ∉ [.UPDATE, .LEDOFF, .AIND, .AINDOFF, .NOTE, .GAP, .MELEND]) (c : Fin 4) :
    t.levelOf (.led c) = s.levelOf (.led c) := by
  by_cases hbuzz : i.mnemonic ∈ [.BUZON, .TONE]
  · cases i <;> simp [Instr.mnemonic] at hbuzz
    case buzon =>
      cases h
      rw [levelOf_setLevel, if_neg nofun, setDir_levelOf]
    case tone f d u =>
      cases h
      exact levelOf_playTone_led s _ _ _ c
  · exact levelOf_congr ((exec_writesOnly h).level (by simp_all)) _

/-- Settles O46: the registers by the field lemmas of every command's operations, the pins one by one. -/
theorem writersOfRegisters : Obligations.WritersOfRegisters := by
  unfold Obligations.WritersOfRegisters
  intro i s t h
  have hw := exec_writesOnly h
  exact ⟨hw.active, hw.pending, hw.pwm, hw.timer, hw.adcReady, hw.pullSh, hw.swp, hw.safe, hw.owner, hw.synth, hw.result,
    exec_dirOf_buzz h, exec_levelOf_buzz h, exec_dirOf_led h, exec_levelOf_led h⟩

/-! The active bank (R22) -/

theorem advancePwm_active (s : State) :
    s.advancePwm.active = if s.pwmcnt = 255 ∧ s.swp = true then s.pending else s.active := by
  by_cases hb : s.pwmcnt + 1 = 0
  · have h255 : s.pwmcnt = 255 := by bv_omega
    rw [advancePwm_boundary s hb, swapBanks_active]
    cases hswp : s.swp <;> simp [h255, hswp]
  · rw [advancePwm_inside s hb, if_neg fun h => hb (by simp [h.1])]
    rfl

/-- Settles O47: of the three commands that write ACTIVE, UPDATE copies PENDING at the boundary and the others zero both
banks. -/
theorem activeChangesOnlyAtBoundary : Obligations.ActiveChangesOnlyAtBoundary := by
  unfold Obligations.ActiveChangesOnlyAtBoundary
  intro i s t h hne
  have hw : i.mnemonic ∈ [.UPDATE, .LEDOFF, .INIT] := by_contra fun hn => hne ((exec_writesOnly h).active hn)
  cases i <;> simp [Instr.mnemonic] at hw
  case init =>
    cases h
    exact .inr ⟨.inr rfl, by simp⟩
  case ledoff =>
    cases h
    exact .inr ⟨.inl rfl, by simp⟩
  case update =>
    cases h
    simp only [arbitrateSharedPin_active, writeLeds_active, advancePwm_active] at hne ⊢
    split at hne
    · next hb => exact .inl ⟨trivial, hb.1, hb.2, if_pos hb, by simp⟩
    · exact absurd rfl hne

/-! Bits that are never cleared (R26 to R28, R37, R38) -/

/-- No command clears them. -/
theorem exec_keeps_bits {i : Instr} {s t : State} (h : exec i s = .next t) :
    (s.timerRun = true → t.timerRun = true) ∧ (s.clkFull = true → t.clkFull = true) ∧
    (s.adcReady = true → t.adcReady = true) ∧ (s.synValid = true → t.synValid = true) ∧
    (s.resValid = true → t.resValid = true) := by
  rcases exec_cases h with ⟨-, rfl⟩ | ⟨-, rfl⟩ | ⟨-, rfl⟩ | ⟨_, _, -, ⟨-, _, _, rfl⟩ | ⟨-, rfl⟩⟩ | ⟨-, rfl⟩ | ⟨-, -, rfl⟩ |
    ⟨-, -, _, rfl⟩ | ⟨-, -, _, rfl⟩ | ⟨_, _, _, -, rfl⟩ | ⟨-, rfl⟩ | ⟨_, _, _, -, rfl⟩ | ⟨_, _, _, _, -, -, -, rfl⟩ |
    ⟨_, -, -, rfl⟩ | ⟨-, -, rfl⟩ | ⟨-, -, rfl⟩ | ⟨_, _, _, -, rfl⟩ | ⟨_, -, rfl⟩ | ⟨-, rfl⟩ <;> simp +contextual

/-- BUZON, the one command that writes the direction of BUZZ, makes it an output. R146. -/
theorem exec_keeps_buzz_output {i : Instr} {s t : State} (h : exec i s = .next t) (hs : s.dirOf .buzz = .output) :
    t.dirOf .buzz = .output := by
  by_cases hi : i.mnemonic = .BUZON
  · cases i <;> cases hi
    cases h
    rw [setLevel_dirOf, dirOf_setDir, if_pos rfl]
  · exact (exec_dirOf_buzz h hi).trans hs

/-- Settles O48: the tick agent's turn writes none of these, and no command clears one. -/
theorem oneWayBits : Obligations.OneWayBits := by
  unfold Obligations.OneWayBits
  intro s t h
  have hbuzz : s.tickPoint.dirOf .buzz = s.dirOf .buzz := dirOf_congr (by simp) _
  rcases step_cases h with ⟨i, _, u, _, hu, rfl⟩ | ⟨_, rfl⟩
  · obtain ⟨htimer, hclk, hadc, hsyn, hres⟩ := exec_keeps_bits hu
    have hdir := exec_keeps_buzz_output hu
    rw [hbuzz] at hdir
    exact ⟨by simpa using htimer, by simpa using hclk, by simpa using hadc, by simpa using hsyn, by simpa using hres, hdir⟩
  · simp [hbuzz]

/-! The host's read (R38, R88) -/

/-- A result returned after the history has only grown is what the host reads, and the history tells it. -/
theorem returnValue_delivers {s t : State} (h : Grow s t) (v : Word) :
    (t.returnValue v).hostReadRes = .ok (t.returnValue v).res ∧
      ∃ evs, Event.result (t.returnValue v).res ∈ evs ∧ (t.returnValue v).hist = s.hist ++ evs := by
  obtain ⟨⟨evs, hevs⟩, -⟩ := h
  exact ⟨rfl, evs ++ [.result v], by simp, by simp [hevs]⟩

/-- The tick held during MILLIS is recorded after its result. R102. -/
theorem millis_delivers {s t : State} (ht : t = (s.maskTick.returnValue s.ms).unmaskTick) :
    t.hostReadRes = .ok t.res ∧ ∃ evs, Event.result t.res ∈ evs ∧ t.hist = s.hist ++ evs := by
  obtain ⟨⟨evs, hevs⟩, -⟩ := grow_unmaskTick (s.maskTick.returnValue s.ms)
  subst ht
  exact ⟨by simp [State.hostReadRes], .result s.ms :: evs, by simp, by simp [hevs]⟩

/-- Settles O51: the four result-bearing commands end with a result; no other command writes RES or its validity. -/
theorem hostReadsLastResult : Obligations.HostReadsLastResult := by
  unfold Obligations.HostReadsLastResult
  intro i s t h
  refine ⟨fun hi => ?_, fun hi => ?_, fun hv => ?_⟩
  · cases i <;> simp [Instr.mnemonic] at hi
    case millis =>
      cases h
      exact millis_delivers rfl
    case micread =>
      obtain ⟨-, v, rfl⟩ := by simpa using exec_cases h
      exact returnValue_delivers (grow_readOne s) v
    case micreadf =>
      obtain ⟨-, v, rfl⟩ := by simpa using exec_cases h
      exact returnValue_delivers (grow_readMany s _ _) v
    case transp f n =>
      cases h
      exact returnValue_delivers (.refl s) _
  · obtain ⟨hres, hvalid⟩ := (exec_writesOnly h).result hi
    exact hostReadRes_congr hres hvalid
  · simp [State.hostReadRes, hv]

end Sys2Proof.Machine

/-! The registers whose values R47 leaves open show in no history (spec/10_state.md R27, R29, R37, R38): a command run from a state
with other such values answers alike, with such values again. -/

namespace Sys2Proof.Machine

/-- The values agree with the state's own where a command or the host may read them: the configuration after SYNCFG (R37), RES
after a result (R38). -/
structure Unread.Fits (x : Unread) (s : State) : Prop where
  configuration : s.synValid = true → x.duty = s.duty ∧ x.speed = s.speed ∧ x.transpose = s.transpose
  result : s.resValid = true → x.res = s.res

/-- Two answers alike: the same refusal, or next states that agree on what is read. -/
def Alike : Host.Outcome State Fault Refusal → Host.Outcome State Fault Refusal → Prop
  | .next t, .next t' => t.AgreeOnRead t'
  | .refused r, .refused r' => r = r'
  | _, _ => False

theorem Unread.Fits.agree {x : Unread} {s : State} (h : x.Fits s) : s.AgreeOnRead (s.withUnread x) :=
  ⟨rfl, h.configuration, h.result⟩

theorem State.AgreeOnRead.exists_fits {s s' : State} (h : s.AgreeOnRead s') : ∃ x : Unread, x.Fits s ∧ s' = s.withUnread x :=
  ⟨_, ⟨h.configuration, h.result⟩, AgreeOnRead.eq_withUnread h⟩

/-- The values that fit depend on the configuration, RES and their validity alone. -/
theorem Unread.Fits.congr {x : Unread} {s t : State} (h : x.Fits s) (hv : t.synValid = s.synValid := by simp)
    (hd : t.duty = s.duty := by simp) (hs : t.speed = s.speed := by simp) (ht : t.transpose = s.transpose := by simp)
    (hr : t.res = s.res := by simp) (hrv : t.resValid = s.resValid := by simp) : x.Fits t where
  configuration := by rw [hv, hd, hs, ht]; exact h.configuration
  result := by rw [hr, hrv]; exact h.result

/-- No command reads CLK_FULL or PULL_SH: any values fit. R27, R29. -/
theorem Unread.Fits.writeOpen {x : Unread} {s : State} (h : x.Fits s) {clkFull pullSh : Bool} :
    { x with clkFull := clkFull, pullSh := pullSh }.Fits s := ⟨h.configuration, h.result⟩

theorem Alike.of_next {t : State} {o : Host.Outcome State Fault Refusal} (h : Alike (.next t) o) :
    ∃ t', o = .next t' ∧ t.AgreeOnRead t' := by
  cases o with
  | next t' => exact ⟨t', rfl, h⟩
  | fault f => exact nomatch f
  | refused r => exact h.elim

theorem Alike.of_refused {r : Refusal} {o : Host.Outcome State Fault Refusal} (h : Alike (.refused r) o) : o = .refused r := by
  cases o with
  | next t => exact h.elim
  | fault f => exact nomatch f
  | refused r' => exact congrArg _ (Eq.symm h)

/-- Next states that differ in such registers only are alike. -/
theorem alike_next {x : Unread} {t t' : State} (ht : t' = t.withUnread x) (h : x.Fits t) : Alike (.next t) (.next t') := by
  rw [ht]
  exact h.agree

/-- After a result RES is what was returned, whatever it held. R38. -/
theorem Unread.Fits.returnValue {x : Unread} {s : State} (h : x.Fits s) (v : Word) :
    { x with res := v }.Fits (s.returnValue v) := ⟨h.configuration, fun _ => rfl⟩

theorem alike_returnValue {x : Unread} {t t' : State} (ht : t' = t.withUnread x) (h : x.Fits t) (v : Word) :
    Alike (.next (t.returnValue v)) (.next (t'.returnValue v)) :=
  alike_next (x := { x with res := v }) (by rw [ht]; rfl) (h.returnValue v)

/-- A command answers alike whatever the registers hold that R47 leaves open. -/
theorem exec_alike {s : State} {x : Unread} (hx : x.Fits s) (i : Instr) : Alike (exec i s) (exec i (s.withUnread x)) := by
  have hmic : (s.withUnread x).cfg.micEnable = s.cfg.micEnable := rfl
  have hval : (s.withUnread x).synValid = s.synValid := rfl
  cases i
  case millis =>
    refine alike_next (x := { x with res := s.ms }) ?_ ((hx.congr (t := s.maskTick)).returnValue s.ms).congr
    exact unmaskTick_withUnread { x with res := s.ms } (s.maskTick.returnValue s.ms)
  case init => exact alike_next (x := { x with clkFull := true }) rfl hx.congr.writeOpen
  case update =>
    refine alike_next (x := x) ?_ hx.congr
    rw [advancePwm_withUnread]
    exact arbitrateSharedPin_withUnread x (s.advancePwm.writeLeds s.advancePwm.onPhase)
  case ledset ch br =>
    simp only [exec, execLedset]
    split
    · exact alike_next (x := x) rfl hx.congr
    · exact alike_next rfl hx
  case ledoff => exact alike_next (x := x) rfl hx.congr
  case micinit =>
    simp only [exec, execMicinit, hmic]
    split
    · exact alike_next (micHandover_withUnread x s) hx.congr.writeOpen
    · rfl
  case micread =>
    simp only [exec, execMicread, hmic, readOne_withUnread]
    split
    · exact alike_returnValue rfl hx.congr _
    · rfl
  case micreadf =>
    simp only [exec, execMicreadf, hmic, readMany_withUnread]
    split
    · exact alike_returnValue rfl hx.congr _
    · rfl
  case syncfg duty speed n =>
    exact alike_next (x := { x with duty := clampDuty duty, speed := clampSpeed speed, transpose := clampSemitones n }) rfl
      ⟨fun _ => ⟨rfl, rfl, rfl⟩, hx.result⟩
  case buzon => exact alike_next (x := x) rfl hx.congr
  case tone f d u => exact alike_next (playTone_withUnread x s _ _ _) hx.congr
  case note f d =>
    simp only [exec, execNote, hval]
    split
    · next hv =>
      obtain ⟨hd, hs, ht⟩ := hx.configuration hv
      have hduty : (s.withUnread x).duty = s.duty := hd
      have hspeed : (s.withUnread x).speed = s.speed := hs
      have htrans : (s.withUnread x).transpose = s.transpose := ht
      rw [hduty, hspeed, htrans]
      split
      · exact alike_next (playTone_withUnread x (s.indicate f) _ _ _) hx.congr
      · rfl
    · rfl
  case gap =>
    simp only [exec, execGap, hval]
    split
    · next hv =>
      obtain ⟨hd, hs, -⟩ := hx.configuration hv
      have hduty : (s.withUnread x).duty = s.duty := hd
      have hspeed : (s.withUnread x).speed = s.speed := hs
      rw [hduty, hspeed]
      exact alike_next (playTone_withUnread x s.indicateOff _ _ _) hx.congr
    · rfl
  case melend =>
    simp only [exec, execMelend, hmic]
    split
    · refine alike_next (x := { x with pullSh := false }) ?_ hx.congr.writeOpen
      exact congrArg (State.emit · .recal) (micHandover_withUnread x s.indicateOff)
    · exact alike_next (x := x) rfl hx.congr
  case transp f n => exact alike_returnValue rfl hx _
  case aind f => exact alike_next (x := x) rfl hx.congr
  case aindoff => exact alike_next (x := x) rfl hx.congr

/-- So does the step: its tick agent's turn and its decoding read none of them. -/
theorem step_alike {s : State} {x : Unread} (hx : x.Fits s) : Alike (step s) (step (s.withUnread x)) := by
  have hx' : x.Fits s.tickPoint := hx.congr
  unfold step
  rw [tickPoint_withUnread, show (s.tickPoint.withUnread x).fetch = s.tickPoint.fetch from rfl]
  split
  · next i _ =>
    have h := exec_alike hx' i
    rcases hi : exec i s.tickPoint with t | f | r <;> rw [hi] at h
    · obtain ⟨t', ht', hagree⟩ := h.of_next
      obtain ⟨y, hy, rfl⟩ := hagree.exists_fits
      rw [ht']
      exact alike_next (x := y) rfl hy.congr
    · exact nomatch f
    · rw [h.of_refused]
      rfl
  · exact hx'.agree
  · rfl
  · rfl

/-- Settles O57: the two states' steps are alike, and the host's read of RES is refused or reads the same value. -/
theorem unreadRegistersDoNotMatter : Obligations.UnreadRegistersDoNotMatter := by
  unfold Obligations.UnreadRegistersDoNotMatter
  intro s s' h
  obtain ⟨x, hx, rfl⟩ := h.exists_fits
  have hstep := step_alike hx
  refine ⟨rfl, ?_, fun t ht => ?_, fun r hr => ?_⟩
  · have hvalid : (s.withUnread x).resValid = s.resValid := rfl
    unfold State.hostReadRes
    rw [hvalid]
    split
    · next hv => exact congrArg Except.ok (hx.result hv)
    · rfl
  · exact (ht ▸ hstep).of_next
  · exact (hr ▸ hstep).of_refused

end Sys2Proof.Machine

/-! The step on a decoded command (spec/10_state.md R44, R70) and the state at reset (R47). -/

namespace Sys2Proof.Machine

/-- The tick agent's turn leaves the command at the command index. R44, R70. -/
theorem fetch_tickPoint {s : State} {i : Instr} {rest : List Byte} (h : decode (s.stream.drop s.ci) = .ok (i, rest)) :
    s.tickPoint.fetch = .ok i := by
  simp [State.fetch, h]

/-- The tick agent's turn on an unmasked machine: the TICKs of this point, and nothing else but the choice taken. R70, R100. -/
theorem tickPoint_eq {s : State} (hm : s.tmask = false) :
    s.tickPoint = { s with
      ms := s.ms + BitVec.ofNat 32 s.ticksHere, hist := s.hist ++ List.replicate s.ticksHere .tick, env := s.tickPoint.env } := by
  apply State.ext <;> simp [tickPoint_ms s hm, tickPoint_tpend s hm, tickPoint_hist s hm]

/-- Settles O5: the step's match takes the decoded command's branch. -/
theorem stepRunsDecodedCommand : Obligations.StepRunsDecodedCommand := by
  unfold Obligations.StepRunsDecodedCommand
  intro s i rest h
  have hf := fetch_tickPoint h
  refine ⟨fun t ht => ?_, fun r hr => ?_, tickPoint_stopped s, fun hm => ⟨s.ticksHere, tickPoint_eq hm⟩⟩
  · simp only [step, hf, ht, State.passCommand]
  · simp only [step, hf, hr]

/-! Reset (R47) -/

theorem dirOf_reset (p : Pin) : State.reset.dirOf p = .input := by simp [State.dirOf, State.reset]

theorem levelOf_reset (p : Pin) : State.reset.levelOf p = false := by simp [State.levelOf, State.reset]

/-- Settles O7: every value is R47's, and SYN_VALID = 0 refuses NOTE and GAP. -/
theorem resetValues : Obligations.ResetValues := by
  unfold Obligations.ResetValues
  have hbanks (c : Fin 4) : State.reset.active[c] = 0 ∧ State.reset.pending[c] = 0 := by simp [State.reset]
  exact ⟨hbanks, rfl, rfl, rfl, rfl, rfl, rfl, rfl, fun p => ⟨dirOf_reset p, levelOf_reset p⟩, rfl, rfl, rfl,
    fun _ _ => rfl, rfl, rfl, rfl, rfl, rfl⟩

/-- Settles O54: before the first event every last value is the reset value. -/
theorem faithfulAtReset : Obligations.FaithfulAtReset := by
  unfold Obligations.FaithfulAtReset
  exact { clock := rfl, levels := levelOf_reset, dirs := dirOf_reset, result := rfl }

end Sys2Proof.Machine

/-! LEDSET as a total function of the state (R116), and two of them in a row (R73). -/

namespace Sys2Proof.Machine

/-- What LEDSET leaves, over every channel operand. R116, R181 E1. -/
def State.ledset (s : State) (ch br : Nat) : State :=
  match channelOf ch with
  | some c => (s.setPending c (BitVec.ofNat 8 br)).raiseSwp
  | none => s

theorem exec_ledset (s : State) (ch br : Nat) : exec (.ledset ch br) s = .next (s.ledset ch br) := by
  simp only [exec, execLedset, State.ledset]
  cases channelOf ch <;> rfl

theorem ledset_of_lt (s : State) {ch : Nat} (h : ch < 4) (br : Nat) :
    s.ledset ch br = (s.setPending ⟨ch, h⟩ (BitVec.ofNat 8 br)).raiseSwp := by
  simp only [State.ledset, channelOf, dif_pos h]

theorem ledset_of_le (s : State) {ch : Nat} (h : 4 ≤ ch) (br : Nat) : s.ledset ch br = s := by
  simp only [State.ledset, channelOf, dif_neg (Nat.not_lt.mpr h)]

theorem execAll_ledset_ledset (s : State) (c b c' b' : Nat) :
    execAll [.ledset c b, .ledset c' b'] s = .next ((s.ledset c b).ledset c' b') := by
  simp only [execAll, exec_ledset]

/-- A second request on a channel overwrites the first. R73. -/
theorem ledset_ledset_same (s : State) (c b b' : Nat) : (s.ledset c b).ledset c b' = s.ledset c b' := by
  rcases Nat.lt_or_ge c 4 with h | h
  · simp only [ledset_of_lt _ h]
    apply State.ext <;> simp [Vector.set_set]
  · rw [ledset_of_le s h]

/-- Requests on different channels write different cells of PENDING, so they commute. R73. -/
theorem ledset_comm (s : State) {c c' : Nat} (hne : c ≠ c') (b b' : Nat) :
    (s.ledset c b).ledset c' b' = (s.ledset c' b').ledset c b := by
  rcases Nat.lt_or_ge c 4 with h | h
  · rcases Nat.lt_or_ge c' 4 with h' | h'
    · simp only [ledset_of_lt _ h, ledset_of_lt _ h']
      apply State.ext <;> simp [Vector.set_comm _ _ hne]
    · simp only [ledset_of_le _ h']
  · simp only [ledset_of_le _ h]

/-- Settles O22: LEDSET always completes, and its effect overwrites on one channel and commutes across two. -/
theorem lastLedsetWins : Obligations.LastLedsetWins := by
  unfold Obligations.LastLedsetWins
  intro s c c' b b'
  refine ⟨?_, fun hne => ?_⟩
  · rw [execAll_ledset_ledset, ledset_ledset_same, exec_ledset]
  · rw [execAll_ledset_ledset, execAll_ledset_ledset, ledset_comm s hne]

end Sys2Proof.Machine

/-! The encoding (spec/30_encoding.md R80 to R87): decoding and encoding undo each other, and the decoder and the step refuse
reserved bytes and truncated commands. -/

namespace Sys2Proof

/-! The decoder behind an opcode byte (R83, R84) -/

/-- Behind a row's opcode byte the decoder accepts what the row's operands are. -/
theorem decode_opcode_cons_eq_ok_iff {m : Mnemonic} {bs rest : List Byte} {i : Instr} :
    decode (m.opcode :: bs) = .ok (i, rest) ↔ decodeOperands m bs = some (i, rest) := by
  simp only [decode, ofOpcode_opcode]
  cases decodeOperands m bs <;> simp

theorem decode_opcode_cons_of_none {m : Mnemonic} {bs : List Byte} (h : decodeOperands m bs = none) :
    decode (m.opcode :: bs) = .error (.truncated m) := by
  simp only [decode, ofOpcode_opcode, h]

/-! There and back (R82) -/

/-- Every operand that fits its field comes back from its bytes. -/
theorem decodeOperands_encodeOperands {i : Instr} (hi : i.wellFormed = true) (rest : List Byte) :
    decodeOperands i.mnemonic (encodeOperands i ++ rest) = some (i, rest) := by
  cases i <;> simp [Instr.wellFormed, fitsByte, fitsHalf, fitsSigned] at hi <;>
    simp [Instr.mnemonic, encodeOperands, decodeOperands, hi]

/-- Settles O1: the opcode byte selects the command's own row, whose operands come back. -/
theorem decodeEncodeEveryCommand : Obligations.DecodeEncodeEveryCommand := by
  unfold Obligations.DecodeEncodeEveryCommand
  intro i rest hi
  exact decode_opcode_cons_eq_ok_iff.mpr (decodeOperands_encodeOperands hi rest)

/-- Settles O2: the list is the command's encoding and the rest, so its operand bytes are what the decoder read. -/
theorem decodeOnlyEncodings : Obligations.DecodeOnlyEncodings := by
  unfold Obligations.DecodeOnlyEncodings
  intro bs i rest h
  obtain rfl := eq_encode_append_of_decode h
  obtain ⟨-, hi, -⟩ := decodeOperands_spec (decode_opcode_cons_eq_ok_iff.mp h)
  exact ⟨hi, rfl, by rw [List.length_append, encode_length]⟩

/-! Reserved bytes (R85) -/

/-- The ranges of R85. -/
def IsReserved (op : Byte) : Prop :=
  op.toNat ≤ 0x0F ∨ (0x11 ≤ op.toNat ∧ op.toNat ≤ 0x1F) ∨ (0x24 ≤ op.toNat ∧ op.toNat ≤ 0x2F) ∨
    (0x33 ≤ op.toNat ∧ op.toNat ≤ 0x3F) ∨ 0x49 ≤ op.toNat

theorem not_isReserved_opcode (m : Mnemonic) : ¬ IsReserved m.opcode := by
  cases m <;> simp [IsReserved, Mnemonic.opcode]

/-- Between the reserved ranges lie the seventeen opcodes of R84 and no other byte. -/
theorem exists_opcode_of_not_isReserved {op : Byte} (h : ¬ IsReserved op) : ∃ m : Mnemonic, m.opcode = op := by
  have hmem : op.toNat ∈ Mnemonic.all.map fun m => m.opcode.toNat := by
    simp only [IsReserved] at h
    simp [Mnemonic.all, Mnemonic.opcode]
    omega
  obtain ⟨m, -, hm⟩ := List.mem_map.mp hmem
  exact ⟨m, BitVec.eq_of_toNat_eq hm⟩

theorem decode_cons_of_isReserved {op : Byte} (h : IsReserved op) (bs : List Byte) :
    decode (op :: bs) = .error (.reservedOpcode op) := by
  have hnone : Mnemonic.ofOpcode op = none := by
    cases hm : Mnemonic.ofOpcode op with
    | none => rfl
    | some m => exact absurd (ofOpcode_some hm ▸ h) (not_isReserved_opcode m)
  simp only [decode, hnone]

/-! Truncated commands (R85) -/

/-- Operands that decode are as many as their row's format counts, so fewer bytes do not decode. R81. -/
theorem decodeOperands_eq_none_of_short {m : Mnemonic} {bs : List Byte} (h : bs.length + 1 < m.format.length) :
    decodeOperands m bs = none := by
  cases hr : decodeOperands m bs with
  | none => rfl
  | some r =>
    obtain ⟨rfl, -, rfl⟩ := decodeOperands_spec hr
    have hlen : (encodeOperands r.1).length + 1 = r.1.mnemonic.format.length := encode_length r.1
    rw [List.length_append] at h
    omega

theorem decode_take_encode {i : Instr} {k : Nat} (hpos : 1 ≤ k) (hk : k < i.length) :
    decode ((encode i).take k) = .error (.truncated i.mnemonic) := by
  obtain ⟨k, rfl⟩ := Nat.exists_eq_add_of_le' hpos
  apply decode_opcode_cons_of_none
  apply decodeOperands_eq_none_of_short
  calc ((encodeOperands i).take k).length + 1 ≤ k + 1 := by simp
    _ < i.length := hk

/-! Command streams (R80) -/

@[simp] theorem encodeAll_nil : encodeAll [] = [] := rfl

@[simp] theorem encodeAll_cons (i : Instr) (is : List Instr) : encodeAll (i :: is) = encode i ++ encodeAll is := rfl

@[simp] theorem encodeAll_append (is js : List Instr) : encodeAll (is ++ js) = encodeAll is ++ encodeAll js :=
  List.flatMap_append

end Sys2Proof

namespace Sys2Proof.Machine

/-! The step where no command begins (R85) -/

/-- The tick agent's turn leaves the reason why no command is read. R44, R70. -/
theorem fetch_tickPoint_error {s : State} {e : DecodeError} (h : decode (s.stream.drop s.ci) = .error e) :
    s.tickPoint.fetch = .error e := by
  simp [State.fetch, h]

theorem step_of_reservedOpcode {s : State} {op : Byte} (h : decode (s.stream.drop s.ci) = .error (.reservedOpcode op)) :
    step s = .refused (.reservedOpcode op) := by
  simp only [step, fetch_tickPoint_error h]

theorem step_of_truncated {s : State} {m : Mnemonic} (h : decode (s.stream.drop s.ci) = .error (.truncated m)) :
    step s = .refused (.truncatedCommand m) := by
  simp only [step, fetch_tickPoint_error h]

/-- Settles O3: the decoder refuses both, and the step passes its refusal on. -/
theorem reservedAndTruncatedRefused : Obligations.ReservedAndTruncatedRefused := by
  unfold Obligations.ReservedAndTruncatedRefused
  refine ⟨fun op bs hop => ?_, fun op hop => exists_opcode_of_not_isReserved hop, fun i k hpos hk => ?_⟩
  · have hdec := decode_cons_of_isReserved hop bs
    exact ⟨hdec, fun s hs => step_of_reservedOpcode (hs ▸ hdec)⟩
  · have hdec := decode_take_encode hpos hk
    exact ⟨hdec, fun s hs => step_of_truncated (hs ▸ hdec)⟩

/-! The size of a melody (R92) -/

/-- A note, and for each further note a gap and the note. -/
theorem melodyNotes_length (x : Nat × Nat) (xs : List (Nat × Nat)) :
    (melodyNotes (x :: xs)).length = 2 * xs.length + 1 := by
  induction xs generalizing x with
  | nil => rfl
  | cons y ys ih =>
    simp only [melodyNotes, List.length_cons, ih]
    omega

/-- Five bytes for a note, and for each further note one for the gap and five. R81. -/
theorem encodeAll_melodyNotes_length (x : Nat × Nat) (xs : List (Nat × Nat)) :
    (encodeAll (melodyNotes (x :: xs))).length = 6 * xs.length + 5 := by
  induction xs generalizing x with
  | nil => rfl
  | cons y ys ih =>
    have hnote : (Instr.note x.1 x.2).length = 5 := rfl
    have hgap : Instr.gap.length = 1 := rfl
    simp only [melodyNotes, encodeAll_cons, List.length_append, encode_length, hnote, hgap, ih, List.length_cons]
    omega

/-- Settles O44: SYNCFG and BUZON before the notes and MELEND after them add three commands and seven bytes. -/
theorem melodyExpansionSize : Obligations.MelodyExpansionSize := by
  unfold Obligations.MelodyExpansionSize
  intro duty speed n notes
  refine ⟨?_, fun hne => ?_⟩
  · rintro rfl
    rfl
  · obtain ⟨x, xs, rfl⟩ := List.exists_cons_of_ne_nil hne
    have hsyncfg : (Instr.syncfg duty speed n).length = 5 := rfl
    have hbuzon : Instr.buzon.length = 1 := rfl
    have hmelend : Instr.melend.length = 1 := rfl
    constructor
    · simp only [melody, List.length_cons, List.length_append, List.length_nil, melodyNotes_length]
      omega
    · simp only [melody, encodeAll_cons, encodeAll_append, encodeAll_nil, List.length_append, List.length_cons,
        List.length_nil, encode_length, encodeAll_melodyNotes_length, hsyncfg, hbuzon, hmelend]
      omega

end Sys2Proof.Machine

namespace Sys2Proof

/-! The spec's own byte strings (spec/95_test_vectors.md) -/

/-- Settles O4: the decoder evaluated on the ten words. -/
theorem specWordsDecode : Obligations.SpecWordsDecode := by
  unfold Obligations.SpecWordsDecode
  decide

end Sys2Proof

/-! The clock (spec/40_clock.md): the interrupt taken, held or disabled, tick points and delays as equations on the whole
state, MILLIS, the clock's only writer, elapsed time, and the weak fairness of the tick agent in every infinite run. -/

namespace Sys2Proof.Machine

section
variable {s : State}

/-! The interrupt and the unmask (R100, R102, R186, R187) -/

theorem tickDue_of_unmasked (hr : s.timerRun = true) (hm : s.tmask = false) : s.tickDue = s.tick := by
  simp [State.tickDue, hr, hm]

theorem tickDue_of_masked (hr : s.timerRun = true) (hm : s.tmask = true) : s.tickDue = { s with tpend := true } := by
  simp [State.tickDue, hr, hm]

theorem tickDue_stopped (hr : s.timerRun = false) : s.tickDue = s := by
  simp [State.tickDue, hr]

/-- A held tick is taken at the unmask while the timer runs. -/
theorem unmaskTick_of_held (hp : s.tpend = true) (hr : s.timerRun = true) :
    s.unmaskTick = { s with tmask := false, tpend := false }.tick := by
  rw [State.unmaskTick, if_pos hp]
  exact tickDue_of_unmasked (s := { s with tmask := false, tpend := false }) hr rfl

/-- With no tick held, or the timer stopped, the unmask leaves mask and latch down. -/
theorem unmaskTick_of_not_taken (h : ¬ (s.tpend = true ∧ s.timerRun = true)) :
    s.unmaskTick = { s with tmask := false, tpend := false } := by
  unfold State.unmaskTick
  split
  · next hp => exact tickDue_stopped (Bool.eq_false_iff.mpr fun hr => h ⟨hp, hr⟩)
  · next hp => apply State.ext <;> simp [hp]

/-! Delays and the counts given from outside (R14, R67, R70, log 3) -/

theorem delay_stopped (hr : s.timerRun = false) (us : Nat) : s.delay us = s.emit (.wait us) :=
  tickPoint_stopped _ hr

/-- What a delay does on an unmasked machine. R14. -/
theorem delay_eq (hm : s.tmask = false) (us : Nat) :
    s.delay us = { s with
      ms := s.ms + BitVec.ofNat 32 s.ticksHere, hist := s.hist ++ .wait us :: List.replicate s.ticksHere .tick,
      env := (s.delay us).env } := by
  apply State.ext <;> simp [delay_ms s us hm, delay_tpend s us hm, delay_hist s us hm]

/-- With the timer running the tick agent takes one count at a tick point. -/
theorem tickPoint_env_running (hr : s.timerRun = true) :
    s.tickPoint.env = { s.env with ticks := s.env.ticks.tail, tickNo := s.env.tickNo + 1 } := by
  simp [State.tickPoint, hr]

theorem ticksHere_of_given (hr : s.timerRun = true) {k : Nat} {ks : List Nat} (hk : s.env.ticks = k :: ks) :
    s.ticksHere = k := by
  simp [State.ticksHere, State.nextTicks, hr, hk]

end

/-- Settles O8: one equation for each way the interrupt can go, and the count given from outside is the number of TICKs. -/
theorem tickInterrupt : Obligations.TickInterrupt := by
  unfold Obligations.TickInterrupt
  intro s
  refine ⟨fun hr hm => ?_, tickDue_of_masked, fun hr => ⟨tickDue_stopped hr, tickPoint_stopped s hr, delay_stopped hr⟩,
    fun hm us => ⟨s.ticksHere, delay_eq hm us⟩, fun hr hm us k ks hk => ?_⟩
  · rw [tickDue_of_unmasked hr hm]
    exact ⟨rfl, BitVec.toNat_add s.ms 1⟩
  · have hpoint := tickPoint_eq hm
    have hdelay := delay_eq hm us
    have henv : (s.delay us).env = s.tickPoint.env := by
      rw [State.delay, tickPoint_env_running hr, tickPoint_env_running (s := s.emit (.wait us)) hr, emit_env]
    rw [henv] at hdelay
    rw [tickPoint_env_running hr, ticksHere_of_given hr hk, hk] at hpoint hdelay
    exact ⟨hpoint, hdelay⟩

/-- MILLIS is the masked copy, then the unmask. R102. -/
theorem exec_millis (s : State) : exec .millis s = .next (s.maskTick.returnValue s.ms).unmaskTick := rfl

/-- Settles O9: the unmask after the copy either takes the held tick or only lowers mask and latch. -/
theorem millisReadsClock : Obligations.MillisReadsClock := by
  unfold Obligations.MillisReadsClock
  intro s
  rw [exec_millis]
  congr 1
  by_cases h : s.tpend = true ∧ s.timerRun = true
  · obtain ⟨hp, hr⟩ := h
    rw [if_pos (by simp [hp, hr]), unmaskTick_of_held (by simpa using hp) (by simpa using hr)]
    apply State.ext <;> simp
  · rw [if_neg (by simpa using h), unmaskTick_of_not_taken (by simpa using h)]
    rfl

/-! The only writer of MS (R104) -/

theorem unmaskTick_Ticks (s : State) : Ticks s s.unmaskTick := by
  unfold State.unmaskTick
  split
  · exact tickDue_Ticks { s with tmask := false, tpend := false }
  · exact Ticks.refl s

theorem returnValue_Ticks (s : State) (v : Word) : Ticks s (s.returnValue v) := (Ticks.refl s).of_eq rfl (by simp)

/-- R113 writes a direction and no clock. -/
theorem arbitrateSharedPin_Ticks (s : State) : Ticks s s.arbitrateSharedPin := by
  refine (Ticks.refl s).of_eq (by simp) ?_
  unfold State.arbitrateSharedPin
  split
  · split <;> simp
  · simp

/-- No command moves the clock but by the Tick events it admits. R104. -/
theorem exec_Ticks {i : Instr} {s t : State} (h : exec i s = .next t) : Ticks s t := by
  have own (u : State) (hms : u.ms = s.ms) (hcount : u.hist.count .tick = s.hist.count .tick) : Ticks s u :=
    (Ticks.refl s).of_eq hms hcount
  rcases exec_cases h with ⟨-, rfl⟩ | ⟨-, rfl⟩ | ⟨-, rfl⟩ | ⟨_, _, -, ⟨-, _, _, rfl⟩ | ⟨-, rfl⟩⟩ | ⟨-, rfl⟩ | ⟨-, -, rfl⟩ |
    ⟨-, -, _, rfl⟩ | ⟨-, -, _, rfl⟩ | ⟨_, _, _, -, rfl⟩ | ⟨-, rfl⟩ | ⟨_, _, _, -, rfl⟩ | ⟨_, _, _, _, -, -, -, rfl⟩ |
    ⟨_, -, -, rfl⟩ | ⟨-, -, rfl⟩ | ⟨-, -, rfl⟩ | ⟨_, _, _, -, rfl⟩ | ⟨_, -, rfl⟩ | ⟨-, rfl⟩
  · -- MILLIS
    exact (own (s.maskTick.returnValue s.ms) rfl (by simp)).trans (unmaskTick_Ticks _) rfl
  · -- INIT
    exact own _ (by simp) (by simp)
  · -- UPDATE
    exact (own (s.advancePwm.writeLeds s.advancePwm.onPhase) (by simp) (by simp)).trans (arbitrateSharedPin_Ticks _) (by simp)
  · -- LEDSET, a channel
    exact own _ rfl rfl
  · -- LEDSET, no channel
    exact .refl _
  · -- LEDOFF
    exact own _ (by simp) (by simp)
  · -- MICINIT
    exact micHandover_Ticks s
  · -- MICREAD
    exact (readOne_Ticks s).trans (returnValue_Ticks _ _) (by simp)
  · -- MICREADF
    exact (readMany_Ticks s _ _).trans (returnValue_Ticks _ _) (by simp)
  · -- SYNCFG
    exact own _ rfl rfl
  · -- BUZON
    exact own _ rfl (by simp)
  · -- TONE
    exact playTone_Ticks s _ _ _
  · -- NOTE
    exact (indicate_Ticks s _).trans (playTone_Ticks _ _ _ _) (by simp)
  · -- GAP
    exact (indicateOff_Ticks s).trans (playTone_Ticks _ _ _ _) (by simp)
  · -- MELEND, with a microphone
    exact ((indicateOff_Ticks s).trans (micHandover_Ticks _) (by simp)).of_eq rfl (by simp)
  · -- MELEND, without
    exact indicateOff_Ticks s
  · -- TRANSP
    exact returnValue_Ticks s _
  · -- AIND
    exact indicate_Ticks s _
  · -- AINDOFF
    exact indicateOff_Ticks s

/-- Settles O10: the statement is `Ticks` of every command. -/
theorem clockMovesByTicksOnly : Obligations.ClockMovesByTicksOnly := by
  unfold Obligations.ClockMovesByTicksOnly
  exact fun _ _ _ h => exec_Ticks h

/-! Elapsed time (R103) -/

/-- The start value cancels modulo 2^32. -/
theorem elapsed_add (start d : Word) : elapsed (start + d) start = d := by
  rw [elapsed, BitVec.add_comm, BitVec.add_sub_cancel]

/-- Settles O11: what is left after the start value cancels is `k`, which fits 32 bits. -/
theorem elapsedAcrossRollover : Obligations.ElapsedAcrossRollover := by
  unfold Obligations.ElapsedAcrossRollover
  intro start k duration hk
  have helapsed : (elapsed (start + BitVec.ofNat 32 k) start).toNat = k := by
    rw [elapsed_add, BitVec.toNat_ofNat, Nat.mod_eq_of_lt hk]
  exact ⟨helapsed, by simp [timedOut, helapsed]⟩

/-! Infinite runs (R101, R230) -/

namespace IsRun

variable {σ : Nat → State}

/-- Along a run the tick agent's choices are taken in order. -/
theorem draws (h : IsRun σ) (n k : Nat) : Draws (σ n) (σ (n + k)) := by
  induction k with
  | zero => exact .refl _
  | succ k ih => exact ih.trans (draws_step (h (n + k))).1

/-- A run that starts unmasked stays unmasked between its steps. -/
theorem unmasked (h : IsRun σ) (h0 : (σ 0).tmask = false) (n : Nat) : (σ n).tmask = false := by
  simpa using (h.draws 0 n h0).1

/-- The timer is never stopped again. R26. -/
theorem keeps_running (h : IsRun σ) {n : Nat} (hr : (σ n).timerRun = true) (k : Nat) : (σ (n + k)).timerRun = true := by
  induction k with
  | zero => exact hr
  | succ k ih => exact (oneWayBits _ _ (h (n + k))).1 ih

/-- While the timer runs every step takes at least one choice. -/
theorem tickNo_ge (h : IsRun σ) (h0 : (σ 0).tmask = false) {n : Nat} (hr : (σ n).timerRun = true) (k : Nat) :
    (σ n).env.tickNo + k ≤ (σ (n + k)).env.tickNo := by
  induction k with
  | zero => exact Nat.le_refl _
  | succ k ih =>
    have hstep : (σ (n + k)).env.tickNo < (σ (n + k + 1)).env.tickNo :=
      (draws_step (h (n + k))).2 (h.keeps_running hr k) (h.unmasked h0 _)
    show _ ≤ (σ (n + k + 1)).env.tickNo
    omega

/-- From a state with the timer running, a later one holds more Tick events: the run gets past a free choice that is not 0,
of which fairness gives one after all those given from outside. -/
theorem exists_later_tick (h : IsRun σ) (h0 : (σ 0).tmask = false) {n : Nat} (hr : (σ n).timerRun = true) :
    ∃ k, (σ n).hist.count .tick < (σ (n + k)).hist.count .tick := by
  obtain ⟨i, hfree, hpos⟩ := Config.freeTicks.fair (σ n).freeFrom
  obtain ⟨-, -, -, -, htick⟩ := h.draws n (i + 1) (h.unmasked h0 n)
  have hpast := h.tickNo_ge h0 hr (i + 1)
  exact ⟨i + 1, htick i hfree (by omega) hpos⟩

/-- If no step of a run held a TICK from `n` on, there would be no later Tick event. -/
theorem weaklyFair (h : IsRun σ) (h0 : (σ 0).tmask = false) : WeaklyFair σ := by
  intro n hr
  by_contra hnone
  push Not at hnone
  have hanti : Antitone fun k => (σ (n + k)).hist.count .tick :=
    antitone_nat_of_succ_le fun k => hnone (n + k) (Nat.le_add_right n k)
  obtain ⟨k, hk⟩ := h.exists_later_tick h0 (hr n le_rfl)
  exact absurd hk (not_lt.mpr (hanti (Nat.zero_le k)))

/-- Once the timer runs the Tick events exceed every number. -/
theorem ticks_unbounded (h : IsRun σ) (h0 : (σ 0).tmask = false) {n : Nat} (hr : (σ n).timerRun = true) (k : Nat) :
    ∃ j, k ≤ (σ (n + j)).hist.count .tick := by
  induction k with
  | zero => exact ⟨0, Nat.zero_le _⟩
  | succ k ih =>
    obtain ⟨j, hj⟩ := ih
    obtain ⟨j', hj'⟩ := h.exists_later_tick h0 (h.keeps_running hr j)
    exact ⟨j + j', by rw [← Nat.add_assoc]; omega⟩

end IsRun

/-- Settles O56: fairness of the free choices (93 I2) along the run. -/
theorem tickAgentWeaklyFair : Obligations.TickAgentWeaklyFair := by
  unfold Obligations.TickAgentWeaklyFair
  intro σ h h0
  refine ⟨h.weaklyFair h0, fun n hr k => ?_⟩
  obtain ⟨j, hj⟩ := h.ticks_unbounded h0 hr k
  exact ⟨n + j, Nat.le_add_right n j, hj⟩

end Sys2Proof.Machine

/-! UPDATE (spec/41_pwm.md R112, R113) as a total function of the state: the registers, levels, directions and events it leaves,
and from these the statements about one UPDATE. -/

namespace Sys2Proof.Machine

section
variable (s : State)

/-! The shared pin's arbitration (R113) -/

/-- The shared pin's direction follows its channel's phase; without a microphone no direction changes. -/
theorem dirOf_arbitrateSharedPin (p : Pin) :
    s.arbitrateSharedPin.dirOf p =
      if s.cfg.micEnable ∧ p = s.sharedPin then if s.onPhase s.cfg.sh then .output else .input else s.dirOf p := by
  unfold State.arbitrateSharedPin
  split
  · next hmic =>
    split
    · next hon =>
      rw [dirOf_congr (t := s.setDir s.sharedPin .output) (by simp), dirOf_setDir]
      simp [hmic]
    · next hoff =>
      rw [dirOf_congr (t := s.setDir s.sharedPin .input) (by simp), dirOf_setDir]
      simp [hmic]
  · next hmic => simp [hmic, State.dirOf]

theorem arbitrateSharedPin_owner :
    s.arbitrateSharedPin.owner = if s.cfg.micEnable ∧ s.onPhase s.cfg.sh = false then .MIC else .LED := by
  unfold State.arbitrateSharedPin
  split
  · next hmic => split <;> simp_all
  · next hmic => simp [hmic]

theorem arbitrateSharedPin_safe :
    s.arbitrateSharedPin.safe =
      if s.cfg.micEnable then if s.onPhase s.cfg.sh then false else decide (s.subcnt = 0) || s.safe else s.safe := by
  unfold State.arbitrateSharedPin
  split
  · split
    · rfl
    · rw [raiseSafe_safe]
      rfl
  · rfl

theorem arbitrateSharedPin_hist :
    s.arbitrateSharedPin.hist =
      s.hist ++ if s.cfg.micEnable then [.dir s.sharedPin (s.arbitrateSharedPin.dirOf s.sharedPin)] else [] := by
  rw [dirOf_arbitrateSharedPin]
  unfold State.arbitrateSharedPin
  split
  · next hmic => split <;> simp_all
  · simp

/-! What UPDATE leaves -/

/-- What UPDATE leaves. R112, R113. -/
def State.update : State := (s.advancePwm.writeLeds s.advancePwm.onPhase).arbitrateSharedPin

theorem exec_update : exec .update s = .next s.update := rfl

@[simp] theorem update_pwmcnt : s.update.pwmcnt = s.pwmcnt + 1 := by simp [State.update]
@[simp] theorem update_pending : s.update.pending = s.pending := by simp [State.update]
@[simp] theorem update_cfg : s.update.cfg = s.cfg := by simp [State.update]
@[simp] theorem update_sharedPin : s.update.sharedPin = s.sharedPin := sharedPin_congr (update_cfg s)

theorem update_active : s.update.active = s.advancePwm.active := by simp [State.update]
theorem update_subcnt : s.update.subcnt = s.advancePwm.subcnt := by simp [State.update]
theorem update_swp : s.update.swp = s.advancePwm.swp := by simp [State.update]

/-- The comparison is made with the counter and the ACTIVE values that UPDATE leaves. -/
theorem onPhase_update (c : Fin 4) : s.update.onPhase c = s.advancePwm.onPhase c := by
  simp [State.onPhase, update_active]

theorem levelOf_update_led (c : Fin 4) : s.update.levelOf (.led c) = s.update.onPhase c := by
  rw [onPhase_update, State.update, levelOf_congr (arbitrateSharedPin_level _), levelOf_writeLeds_led]

theorem dirOf_update (p : Pin) :
    s.update.dirOf p =
      if s.cfg.micEnable ∧ p = s.sharedPin then if s.update.onPhase s.cfg.sh then .output else .input else s.dirOf p := by
  rw [onPhase_update, State.update, dirOf_arbitrateSharedPin, onPhase_writeLeds, writeLeds_cfg, advancePwm_cfg,
    sharedPin_congr (s := s) (by simp), dirOf_congr (t := s) (by simp)]

theorem update_owner :
    s.update.owner = if s.cfg.micEnable ∧ s.update.onPhase s.cfg.sh = false then .MIC else .LED := by
  rw [onPhase_update, State.update, arbitrateSharedPin_owner, onPhase_writeLeds]
  simp

theorem update_safe :
    s.update.safe = if s.cfg.micEnable then
      if s.update.onPhase s.cfg.sh then false else decide (s.update.subcnt = 0) || s.safe else s.safe := by
  rw [onPhase_update, update_subcnt, State.update, arbitrateSharedPin_safe, onPhase_writeLeds]
  simp

theorem update_hist :
    s.update.hist = s.hist ++ ledEvents s.update.onPhase ++
      if s.cfg.micEnable then [.dir s.sharedPin (s.update.dirOf s.sharedPin)] else [] := by
  rw [funext (onPhase_update s), State.update, arbitrateSharedPin_hist, writeLeds_hist_ledEvents]
  simp [State.sharedPin]

theorem levelOf_update_sharedPin : s.update.levelOf s.sharedPin = s.update.onPhase s.cfg.sh :=
  levelOf_update_led s s.cfg.sh

/-- With a microphone the shared pin is an output in its channel's on-phase. -/
theorem dirOf_update_sharedPin (hmic : s.cfg.micEnable = true) :
    s.update.dirOf s.sharedPin = if s.update.onPhase s.cfg.sh then .output else .input := by
  rw [dirOf_update, if_pos ⟨hmic, rfl⟩]

/-- With a microphone the block drives the shared pin high in exactly its channel's on-phase. -/
theorem drives_update_sharedPin (hmic : s.cfg.micEnable = true) :
    s.update.drives s.sharedPin = s.update.onPhase s.cfg.sh := by
  rw [State.drives, levelOf_update_sharedPin, dirOf_update_sharedPin s hmic]
  cases s.update.onPhase s.cfg.sh <;> rfl

end

theorem onPhase_iff {s : State} {c : Fin 4} : s.onPhase c = true ↔ s.pwmcnt.toNat < s.active[c].toNat := by
  simp [State.onPhase, BitVec.lt_def]

/-! One UPDATE -/

/-- Settles O13: the boundary and the other steps apart, the levels and events by the comparison. -/
theorem updateCountsSwapsAndDrives : Obligations.UpdateCountsSwapsAndDrives := by
  unfold Obligations.UpdateCountsSwapsAndDrives
  intro s
  refine ⟨s.update, exec_update s, update_pwmcnt s, fun hb => ?_, fun hin => ?_, fun c => ?_, ?_⟩
  · rw [update_pwmcnt] at hb
    rw [update_subcnt, update_swp, update_active, advancePwm_boundary s hb, swapBanks_subcnt, swapBanks_swp,
      swapBanks_active]
    exact ⟨rfl, rfl, rfl⟩
  · rw [update_pwmcnt] at hin
    rw [update_subcnt, update_swp, update_active, advancePwm_inside s hin]
    simp
  · rw [levelOf_update_led, onPhase_iff]
  · rw [funext (levelOf_update_led s), update_hist]

/-- Settles O14: direction, OWNER and SAFE by the phase that UPDATE leaves. -/
theorem updateArbitratesSharedPin : Obligations.UpdateArbitratesSharedPin := by
  unfold Obligations.UpdateArbitratesSharedPin
  intro s
  refine ⟨s.update, exec_update s, fun hmic hoff => ?_, fun hmic hon => ?_, fun hmic => ?_, fun p hp => ?_⟩
  · have hphase : s.update.onPhase s.cfg.sh = false := decide_eq_false (BitVec.not_lt.mpr hoff)
    rw [dirOf_update_sharedPin s hmic, update_owner, update_safe]
    by_cases hsub : s.update.subcnt = 0 <;> simp [hmic, hphase, hsub]
  · have hphase : s.update.onPhase s.cfg.sh = true := decide_eq_true hon
    rw [dirOf_update_sharedPin s hmic, update_owner, update_safe]
    simp [hmic, hphase]
  · rw [dirOf_update, update_owner, update_safe]
    simp [hmic]
  · rw [dirOf_update, if_neg fun h => hp h.2]

/-- Settles O15: what UPDATE's operations do not write is the same, register by register. -/
theorem updateFrame : Obligations.UpdateFrame := by
  unfold Obligations.UpdateFrame
  intro s
  refine ⟨s.update, exec_update s, exec_levelOf_buzz (exec_update s) (by simp [Instr.mnemonic]), ?_⟩
  apply State.ext <;> simp [State.update]

/-- Settles O16: the shared pin's direction and level both follow its channel's phase. -/
theorem sharedPinExclusiveAfterUpdate : Obligations.SharedPinExclusiveAfterUpdate := by
  unfold Obligations.SharedPinExclusiveAfterUpdate
  intro s hmic
  refine ⟨s.update, exec_update s, ?_⟩
  rw [update_sharedPin, drives_update_sharedPin s hmic, dirOf_update_sharedPin s hmic, levelOf_update_sharedPin,
    update_owner, update_safe]
  cases s.update.onPhase s.cfg.sh <;> simp [hmic]

end Sys2Proof.Machine

/-! INIT, LEDSET and LEDOFF (spec/41_pwm.md R110, R116, R118): what each writes and its frame. -/

namespace Sys2Proof.Machine

/-- Settles O12: each LED pin by INIT's direction writes, the other registers one by one. -/
theorem initEffect : Obligations.InitEffect := by
  unfold Obligations.InitEffect
  intro s
  refine ⟨_, rfl, fun c => ⟨by simp, by simp, ?_⟩, dirOf_init_buzz s, by simp, ?_⟩
  · rw [dirOf_congr (t := s.fullClock.zeroBanks.clearSwp.ledsOut) (by simp), dirOf_ledsOut, if_neg nofun]
  · apply State.ext <;> simp

/-- A request changes its own channel's PENDING value. R116. -/
theorem setPending_pending_get (s : State) (c c' : Fin 4) (b : Byte) :
    (s.setPending c b).pending[c'] = if c' = c then b else s.pending[c'] := by
  simp [Vector.getElem_set, Fin.ext_iff, eq_comm]

/-- Settles O19: a channel below 4 is written, any other operand selects none. -/
theorem ledsetRequests : Obligations.LedsetRequests := by
  unfold Obligations.LedsetRequests
  intro s ch br hbr
  refine ⟨fun hlt => ⟨s.ledset ch br, exec_ledset s ch br, fun c => ?_, ?_⟩, fun hle => ?_⟩
  · rw [ledset_of_lt s hlt, raiseSwp_pending, setPending_pending_get]
    by_cases hc : c.val = ch
    · simp [Fin.ext_iff, hc, Nat.mod_eq_of_lt (Nat.lt_succ_of_le hbr)]
    · simp [Fin.ext_iff, hc]
  · rw [ledset_of_lt s hlt]
    rfl
  · rw [exec_ledset, ledset_of_le s hle]

/-- What LEDOFF leaves. R118. -/
def State.ledoff (s : State) : State := s.zeroBanks.writeLeds fun _ => false

theorem exec_ledoff (s : State) : exec .ledoff s = .next s.ledoff := rfl

/-- Both banks are zero and the four LED levels low. R118. -/
structure State.Dark (s : State) : Prop where
  active (c : Fin 4) : s.active[c] = 0
  pending (c : Fin 4) : s.pending[c] = 0
  low (c : Fin 4) : s.levelOf (.led c) = false

theorem dark_ledoff (s : State) : s.ledoff.Dark where
  active c := by simp [State.ledoff]
  pending c := by simp [State.ledoff]
  low c := by simp [State.ledoff]

/-- Settles O20: the banks and levels go dark, the other registers are the same one by one. -/
theorem ledoffBlackout : Obligations.LedoffBlackout := by
  unfold Obligations.LedoffBlackout
  intro s
  have hdark := dark_ledoff s
  refine ⟨s.ledoff, exec_ledoff s, fun c => ⟨hdark.active c, hdark.pending c, hdark.low c⟩,
    levelOf_zeroBanks_writeLeds_buzz s _, ?_⟩
  apply State.ext <;> simp [State.ledoff, ledEvents]

end Sys2Proof.Machine

/-! UPDATEs in a row (spec/41_pwm.md R114, R117, R118): a LEDOFF holds, a request waits for the boundary, and over the 256 steps
of a cycle each channel is high at as many steps as its brightness says. -/

namespace Sys2Proof.Machine

theorem updates_eq (n : Nat) (s : State) : updates n s = .next (State.update^[n] s) := by
  induction n generalizing s with
  | zero => rfl
  | succ n ih => exact ih s.update

/-! After LEDOFF (R118, R221) -/

/-- A swap copies zeros, and no zero exceeds the counter. -/
theorem State.Dark.update {s : State} (h : s.Dark) : s.update.Dark := by
  have hactive (c : Fin 4) : s.update.active[c] = 0 := by
    rw [update_active, advancePwm_active]
    split
    · exact h.pending c
    · exact h.active c
  refine ⟨hactive, fun c => ?_, fun c => ?_⟩
  · simpa using h.pending c
  · rw [levelOf_update_led, State.onPhase, hactive]
    simp

/-- Settles O21: dark after LEDOFF, and every UPDATE keeps it dark. -/
theorem ledoffCancelsRequests : Obligations.LedoffCancelsRequests := by
  unfold Obligations.LedoffCancelsRequests
  intro s n
  have hdark : (State.update^[n] s.ledoff).Dark := by
    induction n with
    | zero => exact dark_ledoff s
    | succ n ih =>
      rw [Function.iterate_succ_apply']
      exact ih.update
  exact ⟨s.ledoff, _, exec_ledoff s, updates_eq n _, fun c => ⟨hdark.active c, hdark.low c⟩⟩

/-! Within a cycle (R112, R117) -/

theorem iterate_update_cfg (n : Nat) (s : State) : (State.update^[n] s).cfg = s.cfg := by
  induction n generalizing s with
  | zero => rfl
  | succ n ih => exact (ih s.update).trans (update_cfg s)

/-- The last of some UPDATEs is one UPDATE under the same parameters. -/
theorem exists_iterate_update_eq (n : Nat) (s : State) : ∃ t : State, State.update^[n + 1] s = t.update ∧ t.cfg = s.cfg :=
  ⟨State.update^[n] s, Function.iterate_succ_apply' _ n s, iterate_update_cfg n s⟩

/-- Short of the boundary, `n` UPDATEs advance the counter by `n` and leave ACTIVE. -/
theorem iterate_update_inside {n : Nat} {s : State} (h : s.pwmcnt.toNat + n ≤ 255) :
    (State.update^[n] s).pwmcnt.toNat = s.pwmcnt.toNat + n ∧ (State.update^[n] s).active = s.active := by
  induction n with
  | zero => exact ⟨rfl, rfl⟩
  | succ n ih =>
    obtain ⟨hcnt, hactive⟩ := ih (by omega)
    rw [Function.iterate_succ_apply', update_pwmcnt, update_active, advancePwm_active, hactive]
    exact ⟨by bv_omega, if_neg fun hb => absurd hb.1 (by bv_omega)⟩

theorem levelOf_iterate_update_led (n : Nat) (s : State) (c : Fin 4) :
    (State.update^[n + 1] s).levelOf (.led c) = (State.update^[n + 1] s).onPhase c := by
  rw [Function.iterate_succ_apply', levelOf_update_led]

/-- Where the last of some UPDATEs ends short of the boundary, it shows the ACTIVE values that stood before them. -/
theorem levelOf_iterate_update_inside {n : Nat} {s : State} (hn : 1 ≤ n) (h : s.pwmcnt.toNat + n ≤ 255) (c : Fin 4) :
    (State.update^[n] s).levelOf (.led c) = true ↔ (State.update^[n] s).pwmcnt.toNat < s.active[c].toNat := by
  obtain ⟨m, rfl⟩ := Nat.exists_eq_add_of_le' hn
  rw [← (iterate_update_inside h).2, levelOf_iterate_update_led, onPhase_iff]

/-- `s` with other requests pending. R21, R30. -/
def State.withRequests (s : State) (pending : Vector Byte 4) (swp : Bool) : State :=
  { s with pending := pending, swp := swp }

theorem raiseSafe_withRequests (s : State) (pending : Vector Byte 4) (swp : Bool) :
    (s.withRequests pending swp).raiseSafe = s.raiseSafe.withRequests pending swp := by
  unfold State.raiseSafe
  show (if s.subcnt = 0 then _ else _) = _
  split <;> rfl

/-- The arbitration neither reads nor writes the requests. R113. -/
theorem arbitrateSharedPin_withRequests (s : State) (pending : Vector Byte 4) (swp : Bool) :
    (s.withRequests pending swp).arbitrateSharedPin = s.arbitrateSharedPin.withRequests pending swp := by
  unfold State.arbitrateSharedPin
  show (if s.cfg.micEnable then (if s.onPhase s.cfg.sh then _ else _) else _) = _
  split
  · split
    · rfl
    · exact raiseSafe_withRequests ((s.setDir s.sharedPin .input).setOwner .MIC) pending swp
  · rfl

/-- Away from the boundary UPDATE neither reads nor writes the requests. R112. -/
theorem update_withRequests {s : State} (h : s.pwmcnt + 1 ≠ 0) (pending : Vector Byte 4) (swp : Bool) :
    (s.withRequests pending swp).update = s.update.withRequests pending swp := by
  rw [State.update, State.update, advancePwm_inside s h, advancePwm_inside (s.withRequests pending swp) h,
    ← arbitrateSharedPin_withRequests]
  rfl

theorem iterate_update_withRequests {n : Nat} {s : State} (h : s.pwmcnt.toNat + n ≤ 255) (pending : Vector Byte 4)
    (swp : Bool) :
    State.update^[n] (s.withRequests pending swp) = (State.update^[n] s).withRequests pending swp := by
  induction n with
  | zero => rfl
  | succ n ih =>
    have hcnt := (iterate_update_inside (n := n) (s := s) (by omega)).1
    rw [Function.iterate_succ_apply', Function.iterate_succ_apply', ih (by omega), update_withRequests (by bv_omega)]

/-- A request writes PENDING and SWP at most. R116. -/
theorem ledset_eq_withRequests (s : State) (ch br : Nat) :
    s.ledset ch br = s.withRequests (s.ledset ch br).pending (s.ledset ch br).swp := by
  rcases Nat.lt_or_ge ch 4 with hlt | hle
  · rw [ledset_of_lt s hlt]
    rfl
  · rw [ledset_of_le s hle]
    rfl

/-- Short of the boundary the UPDATEs carry a request along unread. R117. -/
theorem iterate_update_ledset {n : Nat} {s : State} (h : s.pwmcnt.toNat + n ≤ 255) (ch br : Nat) :
    State.update^[n] (s.ledset ch br) =
      (State.update^[n] s).withRequests (s.ledset ch br).pending (s.ledset ch br).swp := by
  rw [← iterate_update_withRequests h, ← ledset_eq_withRequests]

/-- The UPDATE at the boundary makes a pending request active. R112. -/
theorem update_active_of_swap {s : State} (hcnt : s.pwmcnt = 255) (hswp : s.swp = true) : s.update.active = s.pending := by
  rw [update_active, advancePwm_active, if_pos ⟨hcnt, hswp⟩]

/-- Settles O18: the UPDATEs within the cycle carry the request along unread; the one at the boundary swaps it in. -/
theorem doubleBufferAtomic : Obligations.DoubleBufferAtomic := by
  unfold Obligations.DoubleBufferAtomic
  intro s ch br n hn
  have hw := iterate_update_inside hn
  have hv := iterate_update_ledset hn ch br
  refine ⟨s.ledset ch br, _, _, exec_ledset s ch br, updates_eq n _, updates_eq n s, hv, ?_, ?_, ?_, fun h1 c => ?_,
    fun h255 c hc => ?_⟩
  · rw [ledset_eq_withRequests]
    rfl
  · rw [ledset_eq_withRequests]
    rfl
  · rw [hv]
    exact hw.2
  · rw [hv]
    exact levelOf_iterate_update_inside h1 hn c
  · subst hc
    have hcnt : (State.update^[n] (s.ledset c br)).pwmcnt = 255 := by
      rw [hv]
      exact BitVec.eq_of_toNat_eq (hw.1.trans h255)
    have hactive : (State.update^[n] (s.ledset c br)).update.active[c] = BitVec.ofNat 8 br := by
      rw [update_active_of_swap hcnt (by rw [hv, ledset_of_lt s c.isLt]; rfl), hv, ledset_of_lt s c.isLt]
      exact (setPending_pending_get s c c _).trans (if_pos rfl)
    refine ⟨_, exec_update _, by rw [update_pwmcnt, hcnt]; rfl, hactive, ?_⟩
    rw [levelOf_update_led, onPhase_iff, hactive, update_pwmcnt, hcnt]
    rfl

/-! A whole cycle (R114) -/

theorem count_ledEvents (f : Fin 4 → Bool) (c : Fin 4) (v : Bool) :
    (ledEvents f).count (.level (.led c) v) = if f c = v then 1 else 0 := by
  match c with
  | 0 | 1 | 2 | 3 => simp [ledEvents, List.count_cons]

/-- The level writes of UPDATE: each channel once, at the level it leaves. -/
theorem count_update_hist (s : State) (c : Fin 4) (v : Bool) :
    s.update.hist.count (.level (.led c) v) =
      s.hist.count (.level (.led c) v) + if s.update.onPhase c = v then 1 else 0 := by
  have hdir : (if s.cfg.micEnable then [Event.dir s.sharedPin (s.update.dirOf s.sharedPin)] else []).count
      (.level (.led c) v) = 0 := by
    split <;> simp
  rw [update_hist, List.count_append, List.count_append, hdir, count_ledEvents]
  rfl

/-- The brightness that the next boundary makes active on channel `c`. R112, R114. -/
def State.nextBrightness (s : State) (c : Fin 4) : Nat := (if s.swp then s.pending[c] else s.active[c]).toNat

/-- The `k`-th UPDATE of a cycle leaves PWMCNT = `k` and the brightness that the boundary made active. -/
theorem iterate_update_cycle {s : State} (h255 : s.pwmcnt = 255) {k : Nat} (hk : k < 256) (c : Fin 4) :
    (State.update^[k + 1] s).pwmcnt.toNat = k ∧ (State.update^[k + 1] s).active[c].toNat = s.nextBrightness c := by
  have hcnt : s.update.pwmcnt.toNat = 0 := by simp [h255]
  have hin := iterate_update_inside (n := k) (s := s.update) (by omega)
  rw [Function.iterate_succ_apply, hin.1, hin.2, hcnt, update_active, advancePwm_active]
  refine ⟨Nat.zero_add k, ?_⟩
  unfold State.nextBrightness
  cases hswp : s.swp <;> simp [h255]

theorem onPhase_iterate_update {s : State} (h255 : s.pwmcnt = 255) {k : Nat} (hk : k < 256) (c : Fin 4) :
    (State.update^[k + 1] s).onPhase c = true ↔ k < s.nextBrightness c := by
  obtain ⟨hcnt, hactive⟩ := iterate_update_cycle h255 hk c
  rw [onPhase_iff, hcnt, hactive]

/-- The first `n` UPDATEs of a cycle write channel `c` high until its brightness is reached, then low. -/
theorem count_iterate_update {s : State} (h255 : s.pwmcnt = 255) (c : Fin 4) {n : Nat} (hn : n ≤ 256) :
    (State.update^[n] s).hist.count (.level (.led c) true) =
      s.hist.count (.level (.led c) true) + min n (s.nextBrightness c) ∧
    (State.update^[n] s).hist.count (.level (.led c) false) =
      s.hist.count (.level (.led c) false) + (n - s.nextBrightness c) := by
  induction n with
  | zero => simp
  | succ n ih =>
    obtain ⟨hhigh, hlow⟩ := ih (by omega)
    have hphase := onPhase_iterate_update h255 (k := n) (by omega) c
    rw [Function.iterate_succ_apply'] at hphase ⊢
    rw [count_update_hist, count_update_hist, hhigh, hlow]
    by_cases hlt : n < s.nextBrightness c
    · rw [hphase.mpr hlt]
      simp
      omega
    · rw [Bool.eq_false_iff.mpr (mt hphase.mp hlt)]
      simp
      omega

/-- Settles O17: the `k`-th step of the cycle compares the brightness with `k`, and the writes add up. -/
theorem pwmDutyOverCycle : Obligations.PwmDutyOverCycle := by
  unfold Obligations.PwmDutyOverCycle
  intro s c b h255 hb
  replace hb : b = s.nextBrightness c := hb
  subst hb
  refine ⟨fun k hk => ?_, ?_⟩
  · obtain ⟨hcnt, hactive⟩ := iterate_update_cycle h255 hk c
    have hphase := onPhase_iterate_update h255 hk c
    refine ⟨_, updates_eq (k + 1) s, hcnt, hactive, ?_, fun hmic hc => ?_⟩
    · rwa [levelOf_iterate_update_led]
    · subst hc
      obtain ⟨t, ht, hcfg⟩ := exists_iterate_update_eq k s
      rw [ht, ← hcfg] at hphase ⊢
      rw [← hcfg] at hmic
      refine ⟨?_, fun hle => ?_⟩
      · rw [← hphase, ← drives_update_sharedPin t hmic]
        rfl
      · exact (dirOf_update_sharedPin t hmic).trans (if_neg fun hon => absurd (hphase.mp hon) (Nat.not_lt.mpr hle))
  · obtain ⟨hhigh, hlow⟩ := count_iterate_update h255 c (Nat.le_refl 256)
    have hlt : s.nextBrightness c < 256 := BitVec.isLt _
    exact ⟨_, updates_eq 256 s, by omega, by omega⟩

end Sys2Proof.Machine

/-! The sampling arbiter (spec/42_sampling.md R129 to R140): the three commands as functions of the state, the events of every
read of a mean, and from these the statements about results, requested delays and safe reads. -/

namespace Sys2Proof.Machine

/-! The three commands (R129, R130, R133, R137) -/

/-- What MICREAD leaves. R133. -/
def State.micread (s : State) : State := s.readOne.1.returnValue (s.readOne.2.setWidth 32)

/-- What MICREADF leaves. R137. -/
def State.micreadf (s : State) : State :=
  (s.readMany 0 s.cfg.micFilterN).1.returnValue (BitVec.ofNat 32 ((s.readMany 0 s.cfg.micFilterN).2 / s.cfg.micFilterN))

theorem exec_micinit {s : State} (hmic : s.cfg.micEnable = true) : exec .micinit s = .next s.micHandover := if_pos hmic

theorem exec_micread {s : State} (hmic : s.cfg.micEnable = true) : exec .micread s = .next s.micread := if_pos hmic

theorem exec_micreadf {s : State} (hmic : s.cfg.micEnable = true) : exec .micreadf s = .next s.micreadf := if_pos hmic

/-- Settles O24: each of the three begins with the test of MIC_ENABLE. -/
theorem micCommandsNeedMicrophone : Obligations.MicCommandsNeedMicrophone := by
  unfold Obligations.MicCommandsNeedMicrophone
  intro s hmic
  have hno : ¬ s.cfg.micEnable = true := by simp [hmic]
  exact ⟨if_neg hno, if_neg hno, if_neg hno⟩

/-- Settles O23: the hand-over's events and directions by its laws, the other registers one by one. -/
theorem micinitEffect : Obligations.MicinitEffect := by
  unfold Obligations.MicinitEffect
  intro s hmic
  refine ⟨s.micHandover, exec_micinit hmic, ?_, fun p hp => ?_, micHandover_quiet s, by simp [State.micHandover],
    by simp [State.micHandover], ?_⟩
  · rw [dirOf_micHandover, if_pos rfl]
  · rw [dirOf_micHandover, if_neg hp]
  · apply State.ext <;> simp

/-! The reads of a mean (R137) -/

theorem returnValue_quiet (s : State) (v : Word) : quiet (s.returnValue v).hist = quiet s.hist ++ [.result v] :=
  quiet_append s.hist [.result v]

/-- The events of the `k`-th read of a mean that begins in `s`: only the first read can find SAFE = 1. R133, R137. -/
def State.readEvents (s : State) (k : Nat) : List Event :=
  (if s.safe ∧ k = 0 then [] else [.wait s.cfg.micWaitUs]) ++
    [.wait s.cfg.adcConvUs, .sample (s.draw k) (s.safe && k == 0) (s.dirOf s.sharedPin)]

/-- The events of the reads after the first, `n` of them, each behind the delay between samples. R137. -/
def State.laterReadEvents (s : State) (n : Nat) : List Event :=
  (List.range n).flatMap fun k => .wait s.cfg.micFilterDelayUs :: s.readEvents (k + 1)

theorem readOne_quiet_readEvents (s : State) : quiet s.readOne.1.hist = quiet s.hist ++ s.readEvents 0 := by
  rw [readOne_quiet]
  simp [State.readEvents]

/-- After one read and the delay the reads go on as the reads after the first. -/
theorem readEvents_readOne_delay (s : State) (us k : Nat) :
    (s.readOne.1.delay us).readEvents k = s.readEvents (k + 1) := by
  have hdir := dirOf_sharedPin_congr (s := s) (t := s.readOne.1.delay us) (by simp) (by simp)
  simp [State.readEvents, hdir, delay_draw, readOne_draw]

theorem laterReadEvents_succ (s : State) (n : Nat) :
    s.laterReadEvents (n + 1) = .wait s.cfg.micFilterDelayUs :: s.readEvents 1 ++
      (s.readOne.1.delay s.cfg.micFilterDelayUs).laterReadEvents n := by
  simp [State.laterReadEvents, List.range_succ_eq_map, List.flatMap_map, readEvents_readOne_delay]

theorem readMany_quiet (s : State) (sum n : Nat) :
    quiet (s.readMany sum (n + 1)).1.hist = quiet s.hist ++ s.readEvents 0 ++ s.laterReadEvents n := by
  induction n generalizing s sum with
  | zero => simp [State.readMany, readOne_quiet_readEvents, State.laterReadEvents]
  | succ n ih =>
    rw [State.readMany, ih, delay_quiet, readOne_quiet_readEvents, readEvents_readOne_delay, laterReadEvents_succ]
    simp

theorem micread_quiet (s : State) : quiet s.micread.hist = quiet s.hist ++ s.readEvents 0 ++ [.result s.micread.res] := by
  rw [State.micread, returnValue_quiet, readOne_quiet_readEvents]
  rfl

/-- MIC_FILTER_N is at least 1: a first read, and the later ones. R8. -/
theorem micreadf_quiet (s : State) :
    quiet s.micreadf.hist =
      quiet s.hist ++ s.readEvents 0 ++ s.laterReadEvents (s.cfg.micFilterN - 1) ++ [.result s.micreadf.res] := by
  rw [State.micreadf, returnValue_quiet, ← readMany_quiet s 0, Nat.sub_add_cancel s.cfg.micFilterN_pos]
  rfl

/-! Results (R133, R137) -/

theorem draw_toNat_le (s : State) (k : Nat) : (s.draw k).toNat ≤ 1023 := Nat.le_of_lt_succ (s.draw k).isLt

theorem drawSum_le (s : State) (n : Nat) : s.drawSum n ≤ n * 1023 := by
  have h := List.sum_le_card_nsmul ((List.range n).map fun k => (s.draw k).toNat) 1023 (by simp [draw_toNat_le])
  simpa [State.drawSum] using h

/-- The mean of values of at most 1023 is at most 1023. -/
theorem drawSum_div_le (s : State) (n : Nat) : s.drawSum n / n ≤ 1023 :=
  Nat.div_le_of_le_mul (drawSum_le s n)

theorem micread_res (s : State) : s.micread.res = (s.draw 0).setWidth 32 := by simp [State.micread, draw_nextSample]

theorem micreadf_res_toNat (s : State) : s.micreadf.res.toNat = s.drawSum s.cfg.micFilterN / s.cfg.micFilterN := by
  have hle := drawSum_div_le s s.cfg.micFilterN
  rw [State.micreadf, (readMany_sum s 0 _).1, Nat.zero_add, returnValue_res, BitVec.toNat_ofNat]
  exact Nat.mod_eq_of_lt (by omega)

theorem micread_draw (s : State) (k : Nat) : s.micread.draw k = s.draw (k + 1) := by
  rw [State.micread, draw_returnValue, readOne_draw]

theorem micreadf_draw (s : State) (k : Nat) : s.micreadf.draw k = s.draw (k + s.cfg.micFilterN) := by
  rw [State.micreadf, draw_returnValue, (readMany_sum s 0 _).2]

/-- Settles O26: the loop's events and sum, and registers that it leaves one by one. -/
theorem micreadfMean : Obligations.MicreadfMean := by
  unfold Obligations.MicreadfMean
  intro s hmic
  have hres := micreadf_res_toNat s
  refine ⟨s.micreadf, exec_micreadf hmic, hres, hres ▸ drawSum_div_le s _, micreadf_draw s, ?_, ?_⟩
  · obtain ⟨n, hn⟩ := Nat.exists_eq_add_of_le' s.cfg.micFilterN_pos
    rw [micreadf_quiet, hn, List.range_succ_eq_map]
    simp [State.laterReadEvents, State.readEvents, List.flatMap_map]
  · apply State.ext <;> simp [State.micreadf, readMany_safe s 0 _ s.cfg.micFilterN_pos]

/-- Settles O25: one read's events and draw, and registers that it leaves one by one. -/
theorem micreadEffect : Obligations.MicreadEffect := by
  unfold Obligations.MicreadEffect
  intro s hmic
  refine ⟨s.micread, exec_micread hmic, micread_res s, ?_, micread_draw s, ?_, ?_⟩
  · have hle := draw_toNat_le s 0
    rw [micread_res, BitVec.toNat_setWidth]
    omega
  · simp [micread_quiet, State.readEvents]
  · apply State.ext <;> simp [State.micread]

/-- Settles O27: the loop makes one read, and its sum divided by 1 is the value read. -/
theorem micreadfOfOneIsMicread : Obligations.MicreadfOfOneIsMicread := by
  unfold Obligations.MicreadfOfOneIsMicread
  intro s hone
  simp only [exec, execMicreadf, execMicread, hone, State.readMany, Nat.zero_add, Nat.div_one, BitVec.ofNat_toNat]

/-! Requested delays (R134, R230) -/

theorem requestedUs_readEvents (s : State) (k : Nat) :
    requestedUs (s.readEvents k) = (if s.safe ∧ k = 0 then 0 else s.cfg.micWaitUs) + s.cfg.adcConvUs := by
  rw [State.readEvents, requestedUs_append]
  split <;> simp [requestedUs]

theorem requestedUs_laterReadEvents (s : State) (n : Nat) :
    requestedUs (s.laterReadEvents n) = n * (s.cfg.micWaitUs + s.cfg.micFilterDelayUs) + n * s.cfg.adcConvUs := by
  induction n with
  | zero => simp [State.laterReadEvents, requestedUs]
  | succ n ih =>
    have hone : requestedUs (.wait s.cfg.micFilterDelayUs :: s.readEvents (n + 1)) =
        s.cfg.micFilterDelayUs + (s.cfg.micWaitUs + s.cfg.adcConvUs) := by
      rw [← List.singleton_append, requestedUs_append, requestedUs_readEvents]
      simp [requestedUs]
    have hsucc : s.laterReadEvents (n + 1) =
        s.laterReadEvents n ++ .wait s.cfg.micFilterDelayUs :: s.readEvents (n + 1) := by
      simp [State.laterReadEvents, List.range_succ]
    rw [hsucc, requestedUs_append, ih, hone]
    ring

/-- Settles O28: the requests of the first read, of the later ones, and none for the result. -/
theorem micreadfRequestedDelay : Obligations.MicreadfRequestedDelay := by
  unfold Obligations.MicreadfRequestedDelay
  intro s hmic
  refine ⟨s.micreadf, exec_micreadf hmic, ?_⟩
  obtain ⟨n, hn⟩ := Nat.exists_eq_add_of_le' s.cfg.micFilterN_pos
  have hresult : requestedUs [.result s.micreadf.res] = 0 := rfl
  rw [requestedUs_quiet, micreadf_quiet, requestedUs_append, requestedUs_append, requestedUs_append, ← requestedUs_quiet,
    requestedUs_readEvents, requestedUs_laterReadEvents, hresult, hn, Nat.add_sub_cancel]
  simp only [and_true]
  ring

/-! Reads with SAFE = 1 (R115, R136, R140) -/

@[simp] theorem update_env (s : State) : s.update.env = s.env := by simp [State.update]

/-- Settles O29: the UPDATE leaves SAFE raised and the shared pin an input, and takes no answer of the environment. -/
theorem safeReadAfterUpdate : Obligations.SafeReadAfterUpdate := by
  unfold Obligations.SafeReadAfterUpdate
  intro s t hmic ht hoff hsub
  obtain rfl := Host.Outcome.next.inj ((exec_update s).symm.trans ht)
  have hphase : s.update.onPhase s.cfg.sh = false := decide_eq_false (BitVec.not_lt.mpr hoff)
  have hsafe : s.update.safe = true := by simp [update_safe, hmic, hphase, hsub]
  have hdir : s.update.dirOf s.update.sharedPin = .input := by
    rw [update_sharedPin, dirOf_update_sharedPin s hmic, hphase]
    rfl
  have hdraw : s.update.draw 0 = s.draw 0 := draw_congr (by simp) (by simp) 0
  refine ⟨s.update.micread, exec_micread (by simpa using hmic), ?_⟩
  rw [micread_quiet, State.readEvents, hsafe, hdir, hdraw]
  simp

/-! No sample with SAFE = 1 and direction out (spec/90_conflicts.md C2) -/

@[simp] theorem noUnsafeSample_nil : NoUnsafeSample [] := by simp [NoUnsafeSample]

@[simp] theorem noUnsafeSample_cons (e : Event) (h : List Event) :
    NoUnsafeSample (e :: h) ↔ (∀ v, e ≠ .sample v true .output) ∧ NoUnsafeSample h := by
  simp [NoUnsafeSample, forall_and, eq_comm]

@[simp] theorem noUnsafeSample_append (a b : List Event) :
    NoUnsafeSample (a ++ b) ↔ NoUnsafeSample a ∧ NoUnsafeSample b := by
  simp [NoUnsafeSample, forall_and]

/-- Tick events are no samples. -/
theorem noUnsafeSample_quiet (h : List Event) : NoUnsafeSample (quiet h) ↔ NoUnsafeSample h := by
  simp [NoUnsafeSample, quiet]

@[simp] theorem noUnsafeSample_ledEvents (f : Fin 4 → Bool) : NoUnsafeSample (ledEvents f) := by simp [ledEvents]

@[simp] theorem noUnsafeSample_waveEvents (high low n : Nat) : NoUnsafeSample (waveEvents high low n) := by
  induction n with
  | zero => simp [waveEvents]
  | succ n ih => simpa [waveEvents, List.replicate_succ] using ih

/-! Each operation adds no such sample -/

@[simp] theorem noUnsafeSample_delay (s : State) (us : Nat) :
    NoUnsafeSample (s.delay us).hist ↔ NoUnsafeSample s.hist := by
  rw [← noUnsafeSample_quiet, delay_quiet]
  simp [noUnsafeSample_quiet]

@[simp] theorem noUnsafeSample_unmaskTick (s : State) : NoUnsafeSample s.unmaskTick.hist ↔ NoUnsafeSample s.hist := by
  unfold State.unmaskTick
  split
  · rw [← noUnsafeSample_quiet, tickDue_quiet, noUnsafeSample_quiet]
  · rfl

@[simp] theorem noUnsafeSample_arbitrateSharedPin (s : State) :
    NoUnsafeSample s.arbitrateSharedPin.hist ↔ NoUnsafeSample s.hist := by
  rw [arbitrateSharedPin_hist]
  split <;> simp

@[simp] theorem noUnsafeSample_playTone (s : State) (f d duty : Nat) :
    NoUnsafeSample (s.playTone f d duty).hist ↔ NoUnsafeSample s.hist := by
  rw [← noUnsafeSample_quiet, playTone_quiet]
  split <;> simp [noUnsafeSample_quiet]

@[simp] theorem noUnsafeSample_indicate (s : State) (f : Nat) :
    NoUnsafeSample (s.indicate f).hist ↔ NoUnsafeSample s.hist := by
  simp [indicate_hist_ledEvents]

@[simp] theorem noUnsafeSample_indicateOff (s : State) : NoUnsafeSample s.indicateOff.hist ↔ NoUnsafeSample s.hist := by
  simp [indicateOff_hist_ledEvents]

@[simp] theorem noUnsafeSample_micHandover (s : State) :
    NoUnsafeSample s.micHandover.hist ↔ NoUnsafeSample s.hist := by
  rw [← noUnsafeSample_quiet, micHandover_quiet]
  simp [noUnsafeSample_quiet]

/-- A first read from a fresh flag finds SAFE = 0 or converts on an input. R136. -/
theorem noUnsafeSample_readEvents_zero {s : State} (hs : s.SafeFresh) : NoUnsafeSample (s.readEvents 0) := by
  cases hsafe : s.safe
  · simp [State.readEvents, hsafe]
  · simp [State.readEvents, hsafe, hs hsafe]

/-- The later reads find SAFE = 0. R137. -/
theorem noUnsafeSample_laterReadEvents (s : State) (n : Nat) : NoUnsafeSample (s.laterReadEvents n) := by
  simp [State.laterReadEvents, State.readEvents, NoUnsafeSample]

theorem noUnsafeSample_readMany {s : State} (hs : s.SafeFresh) (hh : NoUnsafeSample s.hist) (sum n : Nat) :
    NoUnsafeSample (s.readMany sum (n + 1)).1.hist := by
  rw [← noUnsafeSample_quiet] at hh ⊢
  rw [readMany_quiet]
  simp [hh, noUnsafeSample_readEvents_zero hs, noUnsafeSample_laterReadEvents]

/-- MICREAD and MICREADF alone convert, and only their first read can be one with SAFE = 1. -/
theorem exec_noUnsafeSample {i : Instr} {s t : State} (hs : s.SafeFresh) (hh : NoUnsafeSample s.hist)
    (h : exec i s = .next t) : NoUnsafeSample t.hist := by
  have hone : NoUnsafeSample s.readOne.1.hist := noUnsafeSample_readMany hs hh 0 0
  have hmany : NoUnsafeSample (s.readMany 0 s.cfg.micFilterN).1.hist := by
    rw [← Nat.sub_add_cancel s.cfg.micFilterN_pos]
    exact noUnsafeSample_readMany hs hh 0 _
  rcases exec_cases h with ⟨-, rfl⟩ | ⟨-, rfl⟩ | ⟨-, rfl⟩ | ⟨_, _, -, ⟨-, _, _, rfl⟩ | ⟨-, rfl⟩⟩ | ⟨-, rfl⟩ | ⟨-, -, rfl⟩ |
    ⟨-, -, _, rfl⟩ | ⟨-, -, _, rfl⟩ | ⟨_, _, _, -, rfl⟩ | ⟨-, rfl⟩ | ⟨_, _, _, -, rfl⟩ | ⟨_, _, _, _, -, -, -, rfl⟩ |
    ⟨_, -, -, rfl⟩ | ⟨-, -, rfl⟩ | ⟨-, -, rfl⟩ | ⟨_, _, _, -, rfl⟩ | ⟨_, -, rfl⟩ | ⟨-, rfl⟩ <;> simp [hh, hone, hmany]

/-! The fresh flag (R115, R136) -/

/-- While SAFE is 0 the flag is fresh. -/
theorem safeFresh_of_not_safe {s : State} (h : s.safe = false) : s.SafeFresh := fun hs => absurd hs (by simp [h])

/-- While the shared pin is an input the flag is fresh. -/
theorem safeFresh_of_input {s : State} (h : s.dirOf s.sharedPin = .input) : s.SafeFresh := fun _ => h

/-- What leaves SAFE and the shared pin's direction leaves the flag fresh. -/
theorem State.SafeFresh.congr {s t : State} (hs : s.SafeFresh) (hsafe : t.safe = s.safe)
    (hdir : t.dirOf t.sharedPin = s.dirOf s.sharedPin) : t.SafeFresh := by
  intro ht
  rw [hdir]
  exact hs (hsafe ▸ ht)

/-- With a microphone the phase decides direction and flag together; without one neither is written. R113. -/
theorem State.SafeFresh.update {s : State} (hs : s.SafeFresh) : s.update.SafeFresh := by
  by_cases hmic : s.cfg.micEnable = true
  · cases hphase : s.update.onPhase s.cfg.sh
    · apply safeFresh_of_input
      rw [update_sharedPin, dirOf_update_sharedPin s hmic, hphase]
      rfl
    · apply safeFresh_of_not_safe
      rw [update_safe, if_pos hmic, hphase]
      rfl
  · apply hs.congr
    · rw [update_safe, if_neg hmic]
    · rw [update_sharedPin, dirOf_update, if_neg fun h => hmic h.1]

/-- The hand-over leaves the shared pin an input. R130. -/
theorem safeFresh_micHandover (s : State) : s.micHandover.SafeFresh := by
  apply safeFresh_of_input
  rw [sharedPin_congr (s := s) (by simp), dirOf_micHandover, if_pos rfl]

/-- INIT, NOTE and AIND drive the shared pin without dropping SAFE; no other command makes the flag stale. -/
theorem exec_keeps_safeFresh {i : Instr} {s t : State} (hs : s.SafeFresh) (h : exec i s = .next t)
    (hi : i.mnemonic ∉ [.INIT, .NOTE, .AIND]) : t.SafeFresh := by
  cases i
  case init | note | aind => simp [Instr.mnemonic] at hi
  case update =>
    cases h
    exact hs.update
  case micinit =>
    obtain ⟨-, rfl⟩ := by simpa using exec_cases h
    exact safeFresh_micHandover s
  case micread =>
    obtain ⟨-, v, rfl⟩ := by simpa using exec_cases h
    exact safeFresh_of_not_safe (readOne_safe s)
  case micreadf =>
    obtain ⟨-, v, rfl⟩ := by simpa using exec_cases h
    exact safeFresh_of_not_safe (readMany_safe s 0 _ s.cfg.micFilterN_pos)
  case melend =>
    obtain ⟨-, rfl⟩ | ⟨-, rfl⟩ := by simpa using exec_cases h
    · exact safeFresh_micHandover s.indicateOff
    · exact hs.congr (by simp) (dirOf_sharedPin_congr (by simp) (by simp))
  all_goals
    apply hs.congr ((exec_writesOnly h).safe (by simp [Instr.mnemonic]))
    obtain ⟨-, -, hcfg, -⟩ := grow_exec h
    rw [sharedPin_congr hcfg]
    exact exec_dirOf_led h (by simp [Instr.mnemonic]) _

/-- Settles O30: a fresh flag makes every conversion safe, and all but three commands keep it fresh. -/
theorem freshFlagNoUnsafeSample : Obligations.FreshFlagNoUnsafeSample := by
  unfold Obligations.FreshFlagNoUnsafeSample
  intro i s t hs h
  refine ⟨fun hh => exec_noUnsafeSample hs hh h, fun hinit hnote haind => exec_keeps_safeFresh hs h ?_⟩
  cases i <;> simp_all [Instr.mnemonic]

end Sys2Proof.Machine

/-! Transposition (spec/43_tone.md R148, R149): TRANSP's result, and the laws of `Transpose` on table entries and in both
operands. -/

namespace Sys2Proof.Machine

theorem transposeFreq_zero (c : Config) (n : Int) : transposeFreq c 0 n = 0 := if_pos rfl

theorem transposeFreq_of_pos (c : Config) {f : Nat} (hf : 1 ≤ f) (n : Int) :
    transposeFreq c f n = tableRead c (shiftIndex c (nearest c f) n) :=
  if_neg (Nat.ne_of_gt hf)

/-- The shifted index is monotone in the index and in the semitones. R149. -/
theorem shiftIndex_mono (c : Config) {i j : Nat} {m n : Int} (hij : i ≤ j) (hmn : m ≤ n) :
    shiftIndex c i m ≤ shiftIndex c j n := by
  have hi := shiftIndex_eq c i m
  have hj := shiftIndex_eq c j n
  omega

theorem shiftIndex_zero (c : Config) {i : Nat} (hi : i < c.nt) : shiftIndex c i 0 = i := by
  have h := shiftIndex_eq c i 0
  omega

/-- Two transpositions of an entry shift its index twice, with a clamp after each. R148. -/
theorem transpose_transpose_entry (c : Config) {i : Nat} (hi : i < c.nt) (m n : Int) :
    transposeFreq c (transposeFreq c (tableRead c i) m) n = tableRead c (shiftIndex c (shiftIndex c i m) n) := by
  rw [transpose_entry c i m hi, transpose_entry c _ n (shiftIndex_lt c i m)]

theorem shiftIndex_up_down (c : Config) {i : Nat} (hi : i < c.nt) :
    shiftIndex c (shiftIndex c i 12) (-12) = min i (c.nt - 13) := by
  have hup := shiftIndex_eq c i 12
  have hdown := shiftIndex_eq c (shiftIndex c i 12) (-12)
  omega

theorem shiftIndex_down_up (c : Config) {i : Nat} (hi : i < c.nt) :
    shiftIndex c (shiftIndex c i (-12)) 12 = max i (min 12 (c.nt - 1)) := by
  have hdown := shiftIndex_eq c i (-12)
  have hup := shiftIndex_eq c (shiftIndex c i (-12)) 12
  omega

/-- Settles O34: an entry is its own nearest, and its index is not shifted. -/
theorem transposeKeepsEntries : Obligations.TransposeKeepsEntries := by
  unfold Obligations.TransposeKeepsEntries
  intro c i hi
  rw [transpose_entry c i 0 hi, shiftIndex_zero c hi]

/-- Settles O35: entries are distinct, so a round trip returns to the entry exactly when its index returns. -/
theorem transposeRoundTrip : Obligations.TransposeRoundTrip := by
  unfold Obligations.TransposeRoundTrip
  intro c i hi
  have hreturns (m n : Int) : transposeFreq c (transposeFreq c (tableRead c i) m) n = tableRead c i ↔
      shiftIndex c (shiftIndex c i m) n = i := by
    rw [transpose_transpose_entry c hi, table_inj c (shiftIndex_lt c _ n) hi]
  refine ⟨?_, fun hclamp => ?_, ?_⟩
  · rw [hreturns, shiftIndex_up_down c hi]
    omega
  · rw [transpose_transpose_entry c hi, shiftIndex_up_down c hi, Nat.min_eq_right (by omega)]
  · rw [hreturns, shiftIndex_down_up c hi]
    omega

/-- Settles O36: the nearest index, its shift and the table are each monotone. -/
theorem transposeMonotone : Obligations.TransposeMonotone := by
  unfold Obligations.TransposeMonotone
  intro c f g m n hf hfg hmn
  rw [transposeFreq_of_pos c hf, transposeFreq_of_pos c (hf.trans hfg)]
  exact table_le c (shiftIndex_mono c (nearest_mono c f g hfg) hmn) (shiftIndex_lt c _ n)

/-! TRANSP (R148) -/

/-- What TRANSP leaves. R148. -/
def State.transp (s : State) (f : Nat) (n : Int) : State :=
  s.returnValue (BitVec.ofNat 32 (transposeFreq s.cfg f (clampSemitones n)))

theorem exec_transp (s : State) (f : Nat) (n : Int) : exec (.transp f n) s = .next (s.transp f n) := rfl

/-- A transposed frequency has 16 bits, so RES holds all of it. R62. -/
theorem transp_res_toNat (s : State) (f : Nat) (n : Int) :
    (s.transp f n).res.toNat = transposeFreq s.cfg f (clampSemitones n) := by
  have hle := transposeFreq_le s.cfg f (clampSemitones n)
  rw [State.transp, returnValue_res, BitVec.toNat_ofNat]
  omega

/-- Settles O33: the indices are those that `Nearest` and the clamped shift give. -/
theorem transpResult : Obligations.TranspResult := by
  unfold Obligations.TranspResult
  intro s f n
  obtain ⟨hnear, hclosest, hleast⟩ := nearest_spec s.cfg f
  refine ⟨s.transp f n, exec_transp s f n, ?_, fun hf => ?_, rfl⟩
  · rintro rfl
    apply BitVec.eq_of_toNat_eq
    rw [transp_res_toNat, transposeFreq_zero]
    rfl
  · refine ⟨nearest s.cfg f, shiftIndex s.cfg (nearest s.cfg f) (clampSemitones n), hnear, shiftIndex_lt s.cfg _ _, hclosest,
      hleast, shiftIndex_eq s.cfg _ _, ?_⟩
    rw [transp_res_toNat, transposeFreq_of_pos s.cfg hf]

end Sys2Proof.Machine

/-! The tone (spec/43_tone.md R150): the integers of the wave, what `PlayTone` leaves of levels, events and the other registers,
and TONE. -/

namespace Sys2Proof.Machine

/-! The integers of the wave (R150) -/

theorem tonePeriod_ge {f : Nat} (hpos : 1 ≤ f) (hf : f ≤ 65535) : 15 ≤ tonePeriod f :=
  (Nat.le_div_iff_mul_le hpos).mpr (by omega)

theorem tonePeriod_le (f : Nat) : tonePeriod f ≤ 1000000 := Nat.div_le_self _ _

theorem toneHigh_pos {f duty : Nat} (hpos : 1 ≤ f) (hf : f ≤ 65535) (hduty : 10 ≤ duty) : 1 ≤ toneHigh f duty := by
  have hmul : 15 * 10 ≤ tonePeriod f * duty := Nat.mul_le_mul (tonePeriod_ge hpos hf) hduty
  exact (Nat.le_div_iff_mul_le (by omega)).mpr (by omega)

theorem toneHigh_le (f : Nat) {duty : Nat} (hduty : duty ≤ 100) : toneHigh f duty ≤ tonePeriod f :=
  Nat.div_le_of_le_mul (by rw [Nat.mul_comm 100]; exact Nat.mul_le_mul_left _ hduty)

theorem toneHigh_add_toneLow (f : Nat) {duty : Nat} (hduty : duty ≤ 100) :
    toneHigh f duty + toneLow f duty = tonePeriod f :=
  Nat.add_sub_of_le (toneHigh_le f hduty)

/-- Both floors round down, so the wave does not outlast its duration. R150 (3). -/
theorem toneCycles_mul_tonePeriod_le {f : Nat} (hpos : 1 ≤ f) (d : Nat) : toneCycles f d * tonePeriod f ≤ d * 1000 := by
  have hcycles : toneCycles f d * 1000 ≤ f * d := Nat.div_mul_le_self _ _
  have hperiod : tonePeriod f * f ≤ 1000000 := Nat.div_mul_le_self _ _
  have hmul := Nat.mul_le_mul hcycles hperiod
  refine Nat.le_of_mul_le_mul_left (c := f * 1000) ?_ (by omega)
  linarith

/-- Each floor loses less than one unit, so the wave falls short of its duration by less than one period and one microsecond
per cycle. R150 (3). -/
theorem lt_succ_toneCycles_mul_succ_tonePeriod {f : Nat} (hpos : 1 ≤ f) (d : Nat) :
    d * 1000 < (toneCycles f d + 1) * (tonePeriod f + 1) := by
  have hcycles : f * d < 1000 * (toneCycles f d + 1) := Nat.lt_mul_div_succ _ (by omega)
  have hperiod : 1000000 < f * (tonePeriod f + 1) := Nat.lt_mul_div_succ _ hpos
  have hmul := Nat.mul_lt_mul'' hcycles hperiod
  refine Nat.lt_of_mul_lt_mul_left (a := f * 1000) ?_
  linarith

/-- Settles O38: the bounds of each integer of the wave. -/
theorem toneArithmetic : Obligations.ToneArithmetic := by
  unfold Obligations.ToneArithmetic
  intro f d duty hpos hf hd hlo hhi
  have hshort := lt_succ_toneCycles_mul_succ_tonePeriod hpos d
  have hproduct : f * d ≤ 65535 * 65535 := Nat.mul_le_mul hf hd
  have hscaled : tonePeriod f * duty ≤ 1000000 * 100 := Nat.mul_le_mul (tonePeriod_le f) hhi
  refine ⟨toneHigh_pos hpos hf hlo, toneHigh_add_toneLow f hhi, toneCycles_mul_tonePeriod_le hpos d, ?_, by omega, by omega,
    by omega⟩
  linarith

/-! `PlayTone` (R150) -/

theorem toneCycles_zero (d : Nat) : toneCycles 0 d = 0 := by simp [toneCycles]

/-- The wave of a sounding frequency with no cycle does nothing at all. R150 (2). -/
theorem playTone_of_no_cycle (s : State) {f d : Nat} (hf : 1 ≤ f) (hc : toneCycles f d = 0) (duty : Nat) :
    s.playTone f d duty = s := by
  rw [State.playTone, if_neg (Nat.ne_of_gt hf), hc]
  rfl

/-- The wave ends low; a rest and a wave of no cycle leave the buzzer as it was. R150 (1), (6). -/
theorem levelOf_playTone_buzz (s : State) (f d duty : Nat) :
    (s.playTone f d duty).levelOf .buzz = if toneCycles f d = 0 then s.levelOf .buzz else false := by
  by_cases hf : f = 0
  · rw [hf, playTone_rest_levelOf, toneCycles_zero, if_pos rfl]
  · rw [State.playTone, if_neg hf, levelOf_wave_buzz]

@[simp] theorem waveCycle_sampleNo (s : State) (high low : Nat) :
    (s.waveCycle high low).env.sampleNo = s.env.sampleNo := by simp [State.waveCycle]

@[simp] theorem wave_sampleNo (s : State) (high low k : Nat) : (s.wave high low k).env.sampleNo = s.env.sampleNo := by
  induction k generalizing s with
  | zero => rfl
  | succ k ih => rw [State.wave, ih, waveCycle_sampleNo]

@[simp] theorem playTone_sampleNo (s : State) (f d duty : Nat) :
    (s.playTone f d duty).env.sampleNo = s.env.sampleNo := by
  unfold State.playTone
  split <;> simp

/-- What `PlayTone` can change at all. R150. -/
theorem playTone_same (s : State) (f d duty : Nat) :
    s.playTone f d duty = { s with
      level := (s.playTone f d duty).level, ms := (s.playTone f d duty).ms, tpend := (s.playTone f d duty).tpend,
      hist := (s.playTone f d duty).hist, env := (s.playTone f d duty).env } := by
  apply State.ext <;> simp

/-! TONE (R150) -/

theorem exec_tone (s : State) (f d duty : Nat) : exec (.tone f d duty) s = .next (s.playTone f d (clampDuty duty)) := rfl

/-- Settles O37: a rest and a wave apart, the level of BUZZ by the number of cycles. -/
theorem toneEffect : Obligations.ToneEffect := by
  unfold Obligations.ToneEffect
  intro s f d duty
  have hquiet := playTone_quiet s f d (clampDuty duty)
  have hbuzz := levelOf_playTone_buzz s f d (clampDuty duty)
  refine ⟨s.playTone f d (clampDuty duty), exec_tone s f d duty, ?_,
    fun hf high hhigh => ⟨?_, fun hc => ?_, fun hc => ?_⟩, levelOf_playTone_led s f d _, playTone_samples s f d _, playTone_sampleNo s f d _, playTone_same s f d _⟩
  · rintro rfl
    exact ⟨hquiet, playTone_rest_levelOf s d _ _⟩
  · rw [hquiet, if_neg (Nat.ne_of_gt hf), hhigh]
    rfl
  · exact hbuzz.trans (if_neg (Nat.ne_of_gt hc))
  · exact playTone_of_no_cycle s hf hc _

end Sys2Proof.Machine

/-! The other commands of the synthesizer and the indicator (spec/43_tone.md): each command as a function of the state, its
events, and its frame. -/

namespace Sys2Proof.Machine

/-! SYNCFG (R145) -/

/-- What SYNCFG leaves. R145. -/
def State.syncfg (s : State) (duty speed : Nat) (n : Int) : State :=
  { s with duty := clampDuty duty, speed := clampSpeed speed, transpose := clampSemitones n, synValid := true }

theorem exec_syncfg (s : State) (duty speed : Nat) (n : Int) :
    exec (.syncfg duty speed n) s = .next (s.syncfg duty speed n) := rfl

/-- Settles O31: the three clamps are those of R145. -/
theorem syncfgClamps : Obligations.SyncfgClamps := by
  unfold Obligations.SyncfgClamps
  intro s duty speed n
  exact ⟨s.syncfg duty speed n, exec_syncfg s duty speed n, rfl, rfl, rfl, rfl⟩

/-! BUZON (R146) -/

/-- What BUZON leaves. R146. -/
def State.buzon (s : State) : State := (s.setDir .buzz .output).setLevel .buzz false

theorem exec_buzon (s : State) : exec .buzon s = .next s.buzon := rfl

theorem dirOf_buzon (s : State) (p : Pin) : s.buzon.dirOf p = if p = .buzz then .output else s.dirOf p := by
  rw [State.buzon, setLevel_dirOf, dirOf_setDir]

theorem levelOf_buzon (s : State) (p : Pin) : s.buzon.levelOf p = if p = .buzz then false else s.levelOf p := by
  rw [State.buzon, levelOf_setLevel, setDir_levelOf]

theorem buzon_hist (s : State) : s.buzon.hist = s.hist ++ [.dir .buzz .output, .level .buzz false] := by
  simp [State.buzon]

/-- Settles O32: the two writes touch BUZZ alone. -/
theorem buzonEffect : Obligations.BuzonEffect := by
  unfold Obligations.BuzonEffect
  intro s
  refine ⟨s.buzon, exec_buzon s, ?_, ?_, fun c => ⟨?_, ?_⟩, ?_⟩
  · rw [dirOf_buzon, if_pos rfl]
  · rw [levelOf_buzon, if_pos rfl]
  · rw [dirOf_buzon, if_neg nofun]
  · rw [levelOf_buzon, if_neg nofun]
  · rw [← buzon_hist]
    rfl

/-! AIND and AINDOFF (R158, R160) -/

theorem exec_aind (s : State) (f : Nat) : exec (.aind f) s = .next (s.indicate f) := rfl

theorem exec_aindoff (s : State) : exec .aindoff s = .next s.indicateOff := rfl

theorem indicatorLit_zero (c : Config) (ch : Fin 4) : indicatorLit c 0 ch = false := if_pos rfl

theorem indicatorLit_iff (c : Config) {f : Nat} (hf : 1 ≤ f) (ch : Fin 4) :
    indicatorLit c f ch = true ↔ ch = c.indCh[band c f] := by
  rw [indicatorLit, if_neg (Nat.ne_of_gt hf), decide_eq_true_iff]

/-- The three thresholds cut the frequencies into the four bands; a threshold belongs to the upper one. R158. -/
theorem band_spec (c : Config) (f : Nat) :
    (f < c.bandT1 → band c f = 0) ∧ (c.bandT1 ≤ f → f < c.bandT2 → band c f = 1) ∧
      (c.bandT2 ≤ f → f < c.bandT3 → band c f = 2) ∧ (c.bandT3 ≤ f → band c f = 3) := by
  obtain ⟨-, h12, h23, -⟩ := c.band_order
  unfold band
  refine ⟨fun h => if_pos h, fun h1 h2 => ?_, fun h2 h3 => ?_, fun h3 => ?_⟩
  · rw [if_neg (by omega), if_pos h2]
  · rw [if_neg (by omega), if_neg (by omega), if_pos h3]
  · rw [if_neg (by omega), if_neg (by omega), if_neg (by omega)]

theorem levelOf_indicateOff_led (s : State) (c : Fin 4) : s.indicateOff.levelOf (.led c) = false :=
  levelOf_writeLeds_led s _ c

/-- Settles O41: the channel lit is the one of the frequency's band. -/
theorem aindEffect : Obligations.AindEffect := by
  unfold Obligations.AindEffect
  intro s f
  refine ⟨s.indicate f, exec_aind s f, ?_, fun p hp => ?_, ?_, fun hf => ?_, levelOf_indicate_buzz s f, ?_⟩
  · rw [dirOf_indicate, if_pos rfl]
  · rw [dirOf_indicate, if_neg hp]
  · rintro rfl c
    rw [levelOf_indicate_led, indicatorLit_zero]
  · obtain ⟨h0, h1, h2, h3⟩ := band_spec s.cfg f
    refine ⟨band s.cfg f, h0, h1, h2, h3, fun c => ?_⟩
    rw [levelOf_indicate_led, indicatorLit_iff s.cfg hf]
  · simp only [levelOf_indicate_led, ← indicate_hist_ledEvents]
    apply State.ext <;> simp

/-- Settles O42: the four levels by the LED writes, the other registers one by one. -/
theorem aindoffEffect : Obligations.AindoffEffect := by
  unfold Obligations.AindoffEffect
  intro s
  refine ⟨s.indicateOff, exec_aindoff s, levelOf_indicateOff_led s, levelOf_indicateOff_buzz s, ?_⟩
  rw [← indicateOff_hist_ledEvents]
  apply State.ext <;> simp

/-! MELEND (R163) -/

/-- What MELEND leaves. R163. -/
def State.melend (s : State) : State :=
  if s.cfg.micEnable then s.indicateOff.micHandover.emit .recal else s.indicateOff

theorem melend_of_mic {s : State} (hmic : s.cfg.micEnable = true) :
    s.melend = s.indicateOff.micHandover.emit .recal := if_pos hmic

theorem melend_of_noMic {s : State} (hmic : s.cfg.micEnable = false) : s.melend = s.indicateOff :=
  if_neg (by simp [hmic])

theorem exec_melend (s : State) : exec .melend s = .next s.melend := by
  cases hmic : s.cfg.micEnable
  · rw [melend_of_noMic hmic]
    exact if_neg (by simp [hmic])
  · rw [melend_of_mic hmic]
    exact if_pos hmic

theorem melend_level (s : State) : s.melend.level = s.indicateOff.level := by
  unfold State.melend
  split <;> simp

theorem sharedPin_indicateOff (s : State) : s.indicateOff.sharedPin = s.sharedPin := sharedPin_congr (by simp)

theorem melend_quiet (s : State) :
    quiet s.melend.hist = quiet s.hist ++ ledEvents (fun _ => false) ++
      (if s.cfg.micEnable then [.dir s.sharedPin .input, .wait s.cfg.micSettleUs, .recal] else []) := by
  cases hmic : s.cfg.micEnable
  · rw [melend_of_noMic hmic, indicateOff_quiet]
    simp
  · rw [melend_of_mic hmic, emit_hist, quiet_append, micHandover_quiet, indicateOff_quiet, sharedPin_indicateOff,
      indicateOff_cfg]
    simp [quiet]

/-- Settles O43: the levels are those of `IndicateOff`; the two builds apart, the hand-over in the one and nothing more in the
other. -/
theorem melendEffect : Obligations.MelendEffect := by
  unfold Obligations.MelendEffect
  intro s
  refine ⟨s.melend, exec_melend s, fun c => ?_, ?_, fun hmic => ⟨?_, fun p hp => ?_, ?_, ?_, ?_, ?_⟩, fun hmic => ?_⟩
  · rw [levelOf_congr (melend_level s), levelOf_indicateOff_led]
  · exact exec_levelOf_buzz (exec_melend s) (by decide)
  · rw [melend_of_mic hmic, emit_dirOf, dirOf_micHandover, sharedPin_indicateOff, if_pos rfl]
  · rw [melend_of_mic hmic, emit_dirOf, dirOf_micHandover, sharedPin_indicateOff, if_neg hp, indicateOff_dirOf]
  · rw [melend_quiet, if_pos hmic]
  · simp [melend_of_mic hmic, State.micHandover]
  · simp [melend_of_mic hmic, State.micHandover]
  · rw [melend_of_mic hmic]
    apply State.ext <;> simp [State.sharedPin]
  · rw [melend_of_noMic hmic, ← indicateOff_hist_ledEvents]
    apply State.ext <;> simp

/-! GAP and NOTE (R153, R156) -/

/-- What GAP leaves. R156. -/
def State.gap (s : State) : State := s.indicateOff.playTone 0 (scaledMs noteGapMs s.speed) s.duty

/-- What NOTE leaves. R153. -/
def State.note (s : State) (f d : Nat) : State :=
  (s.indicate f).playTone (transposeFreq s.cfg f s.transpose) (scaledMs d s.speed) s.duty

theorem exec_gap {s : State} (hsyn : s.synValid = true) : exec .gap s = .next s.gap := if_pos hsyn

theorem exec_note {s : State} {f d : Nat} (hsyn : s.synValid = true) (hd : scaledMs d s.speed ≤ 65535) :
    exec (.note f d) s = .next (s.note f d) :=
  (if_pos hsyn).trans (if_pos hd)

theorem gap_quiet (s : State) :
    quiet s.gap.hist = quiet s.hist ++ ledEvents (fun _ => false) ++ [.wait (scaledMs noteGapMs s.speed * 1000)] := by
  rw [State.gap, playTone_quiet, if_pos rfl, indicateOff_quiet]

theorem note_quiet (s : State) (f d : Nat) :
    quiet (s.note f d).hist = quiet s.hist ++ .dir s.sharedPin .output :: ledEvents (indicatorLit s.cfg f) ++
      (if transposeFreq s.cfg f s.transpose = 0 then [.wait (scaledMs d s.speed * 1000)]
       else waveEvents (toneHigh (transposeFreq s.cfg f s.transpose) s.duty)
        (toneLow (transposeFreq s.cfg f s.transpose) s.duty)
        (toneCycles (transposeFreq s.cfg f s.transpose) (scaledMs d s.speed))) := by
  rw [State.note, playTone_quiet, indicate_quiet]

theorem levelOf_note_buzz (s : State) (f d : Nat) :
    (s.note f d).levelOf .buzz =
      if toneCycles (transposeFreq s.cfg f s.transpose) (scaledMs d s.speed) = 0 then s.levelOf .buzz else false := by
  rw [State.note, levelOf_playTone_buzz, levelOf_indicate_buzz]

theorem dirOf_note (s : State) (f d : Nat) (p : Pin) :
    (s.note f d).dirOf p = if p = s.sharedPin then .output else s.dirOf p := by
  rw [State.note, playTone_dirOf, dirOf_indicate]

/-- Settles O40: GAP is `IndicateOff` and a rest. -/
theorem gapEffect : Obligations.GapEffect := by
  unfold Obligations.GapEffect
  intro s
  refine ⟨fun hsyn => ⟨s.gap, exec_gap hsyn, fun c => ?_, exec_levelOf_buzz (exec_gap hsyn) (by decide), gap_quiet s,
    ?_, ?_, ?_⟩, fun hsyn => if_neg (by simp [hsyn])⟩
  · rw [State.gap, playTone_rest_levelOf, levelOf_indicateOff_led]
  · rw [State.gap, playTone_samples, indicateOff_env]
  · rw [State.gap, playTone_sampleNo, indicateOff_env]
  · apply State.ext <;> simp [State.gap]

/-- Settles O39: NOTE is `Indicate` and `PlayTone`; SYN_VALID and the scaled duration decide the refusals. -/
theorem noteEffect : Obligations.NoteEffect := by
  unfold Obligations.NoteEffect
  intro s f d
  have hbuzz := levelOf_note_buzz s f d
  refine ⟨fun hsyn hd => ⟨s.note f d, exec_note hsyn hd, fun c => ?_, ?_, fun p hp => ?_, fun hstill => ?_, fun hc => ?_,
    note_quiet s f d, ?_, ?_, ?_⟩, fun hsyn hd => ?_, fun hsyn => if_neg (by simp [hsyn])⟩
  · rw [State.note, levelOf_playTone_led, levelOf_indicate_led]
  · rw [dirOf_note, if_pos rfl]
  · rw [dirOf_note, if_neg hp]
  · have hc : toneCycles (transposeFreq s.cfg f s.transpose) (scaledMs d s.speed) = 0 := by
      rcases hstill with hrest | hc
      · rw [hrest, toneCycles_zero]
      · exact hc
    rw [hbuzz, if_pos hc]
  · exact hbuzz.trans (if_neg (Nat.ne_of_gt hc))
  · rw [State.note, playTone_samples, indicate_env]
  · rw [State.note, playTone_sampleNo, indicate_env]
  · apply State.ext <;> simp [State.note]
  · exact (if_pos hsyn).trans (if_neg (Nat.not_le.mpr hd))

end Sys2Proof.Machine

/-! The source's melody (spec/43_tone.md R166): commands one after another, the configuration that SYNCFG leaves and the notes
keep, and the events of the two notes. -/

namespace Sys2Proof.Machine

theorem execAll_cons_of_next {i : Instr} {s t : State} (h : exec i s = .next t) (is : List Instr) :
    execAll (i :: is) s = execAll is t := by
  simp only [execAll, h]

/-- The state has the parameters `c`, and SYNCFG has stored `duty`, `speed` and `n`. R37, R145. -/
structure State.Configured (s : State) (c : Config) (duty speed : Nat) (n : Int) : Prop where
  cfg : s.cfg = c
  synValid : s.synValid = true
  duty : s.duty = duty
  speed : s.speed = speed
  transpose : s.transpose = n

theorem configured_syncfg (s : State) (duty speed : Nat) (n : Int) :
    (s.syncfg duty speed n).Configured s.cfg (clampDuty duty) (clampSpeed speed) (clampSemitones n) :=
  ⟨rfl, rfl, rfl, rfl, rfl⟩

/-- A frequency of the table is not transposed by 0 semitones. R149. -/
theorem transposeFreq_zero_of_mem {c : Config} {f : Nat} (h : f ∈ c.chroma) : transposeFreq c f 0 = f := by
  obtain ⟨i, hi, rfl⟩ := List.mem_iff_getElem.mp h
  have hread : tableRead c i = c.chroma[i] := List.getD_eq_getElem _ _ hi
  rw [← hread, transpose_entry c i 0 hi, shiftIndex_zero c hi]

namespace State.Configured

variable {s : State} {c : Config} {duty speed : Nat} {n : Int}

/-- Every command but SYNCFG keeps the configuration. R37. -/
theorem of_exec (h : s.Configured c duty speed n) {i : Instr} {t : State} (hex : exec i s = .next t)
    (hi : i.mnemonic ≠ .SYNCFG) : t.Configured c duty speed n := by
  obtain ⟨hduty, hspeed, htranspose, hsyn⟩ := (exec_writesOnly hex).synth hi
  obtain ⟨-, -, hcfg, -⟩ := grow_exec hex
  exact ⟨hcfg.trans h.cfg, hsyn.trans h.synValid, hduty.trans h.duty, hspeed.trans h.speed, htranspose.trans h.transpose⟩

/-- At the original speed a note of 16 bits is in NOTE's domain. R153. -/
theorem exec_note (h : s.Configured c duty 100 n) (f : Nat) {d : Nat} (hd : d ≤ 65535) :
    exec (.note f d) s = .next (s.note f d) := by
  refine Machine.exec_note h.synValid ?_
  rw [scaledMs, h.speed, Nat.mul_div_cancel d (by decide)]
  exact hd

/-- The events of a sounding note that is neither transposed nor scaled. R153. -/
theorem note_quiet (h : s.Configured c duty 100 0) {f : Nat} (hf : f ∈ c.chroma) (d : Nat) :
    quiet (s.note f d).hist = quiet s.hist ++ (.dir (.led c.sh) .output :: ledEvents (indicatorLit c f)) ++
      waveEvents (toneHigh f duty) (toneLow f duty) (toneCycles f d) := by
  have hpos := (c.chroma_range f hf).1
  rw [Machine.note_quiet, State.sharedPin, h.cfg, h.duty, h.speed, h.transpose, transposeFreq_zero_of_mem hf,
    if_neg (Nat.ne_of_gt hpos), scaledMs, Nat.mul_div_cancel d (by decide)]

/-- The events of a rest at the original speed. R153. -/
theorem rest_quiet (h : s.Configured c duty 100 n) (d : Nat) :
    quiet (s.note 0 d).hist = quiet s.hist ++ (.dir (.led c.sh) .output :: ledEvents (fun _ => false)) ++
      [.wait (d * 1000)] := by
  have hdark : indicatorLit c 0 = fun _ => false := funext (indicatorLit_zero c)
  rw [Machine.note_quiet, State.sharedPin, h.cfg, h.speed, transposeFreq_zero, if_pos rfl, scaledMs,
    Nat.mul_div_cancel d (by decide), hdark]

end State.Configured

/-- Settles O45: command after command, each at the configuration that SYNCFG 80, 100, 0 leaves. -/
theorem melodyScenario : Obligations.MelodyScenario := by
  unfold Obligations.MelodyScenario
  intro s h440
  have hsyncfg : (s.syncfg 80 100 0).Configured s.cfg 80 100 0 := configured_syncfg s 80 100 0
  have hbuzon := hsyncfg.of_exec (exec_buzon _) (by decide)
  have hex1 := hbuzon.exec_note 440 (d := 500) (by decide)
  have hnote := hbuzon.of_exec hex1 (by decide)
  have hex2 := exec_gap hnote.synValid
  have hgap := hnote.of_exec hex2 (by decide)
  have hex3 := hgap.exec_note 0 (d := 500) (by decide)
  have hrest := hgap.of_exec hex3 (by decide)
  refine ⟨(((s.syncfg 80 100 0).buzon.note 440 500).gap.note 0 500).melend, ?_, ?_⟩
  · simp only [melody, melodyNotes, List.cons_append, List.nil_append]
    rw [execAll_cons_of_next (exec_syncfg s 80 100 0), execAll_cons_of_next (exec_buzon _), execAll_cons_of_next hex1,
      execAll_cons_of_next hex2, execAll_cons_of_next hex3, execAll_cons_of_next (exec_melend _)]
    rfl
  · have hhigh : toneHigh 440 80 = 1817 := rfl
    have hlow : toneLow 440 80 = 455 := rfl
    have hcycles : toneCycles 440 500 = 220 := rfl
    have hgapMs : scaledMs noteGapMs 100 = 50 := rfl
    rw [melend_quiet, State.sharedPin, hrest.cfg, hgap.rest_quiet, gap_quiet, hnote.speed, hgapMs, hbuzon.note_quiet h440,
      hhigh, hlow, hcycles, buzon_hist, quiet_append]
    rfl

end Sys2Proof.Machine

/-! Refusals (spec/60_exceptions.md R183): the three conditions under which the model refuses a command, what each answers, and
that a command under none of them completes. -/

namespace Sys2Proof.Machine

/-- The command plays with the synthesizer, and SYNCFG has not configured it. R153, R156. -/
def State.LacksSynth (s : State) (i : Instr) : Prop :=
  s.synValid = false ∧ (i.mnemonic = .NOTE ∨ i.mnemonic = .GAP)

/-- The command reads or hands over the microphone, and the build has none. R129. -/
def State.LacksMic (s : State) (i : Instr) : Prop :=
  s.cfg.micEnable = false ∧ (i = .micinit ∨ i = .micread ∨ i = .micreadf)

/-- The command is a NOTE whose scaled duration is outside the admitted domain. R153. -/
def State.OutOfDomain (s : State) (i : Instr) : Prop :=
  ∃ f d, i = .note f d ∧ 65535 < d * 100 / s.speed

section

variable {s : State} {i : Instr}

theorem synValid_of_not_lacksSynth (h : ¬ s.LacksSynth i) (hi : i.mnemonic = .NOTE ∨ i.mnemonic = .GAP) :
    s.synValid = true :=
  Bool.eq_true_of_not_eq_false fun hsyn => h ⟨hsyn, hi⟩

theorem micEnable_of_not_lacksMic (h : ¬ s.LacksMic i) (hi : i = .micinit ∨ i = .micread ∨ i = .micreadf) :
    s.cfg.micEnable = true :=
  Bool.eq_true_of_not_eq_false fun hmic => h ⟨hmic, hi⟩

theorem scaledMs_le_of_not_outOfDomain (h : ¬ s.OutOfDomain i) {f d : Nat} (hi : i = .note f d) :
    d * 100 / s.speed ≤ 65535 :=
  Nat.le_of_not_lt fun hd => h ⟨f, d, hi, hd⟩

theorem exec_of_lacksSynth (h : s.LacksSynth i) : exec i s = .refused .synthNotConfigured := by
  obtain ⟨hsyn, hi⟩ := h
  cases i with
  | note f d => exact (noteEffect s f d).2.2 hsyn
  | gap => exact (gapEffect s).2 hsyn
  | _ => simp [Instr.mnemonic] at hi

theorem exec_of_lacksMic (h : s.LacksMic i) : exec i s = .refused .micNotBuilt := by
  obtain ⟨hmic, hi⟩ := h
  obtain ⟨hinit, hread, hreadf⟩ := micCommandsNeedMicrophone s hmic
  rcases hi with rfl | rfl | rfl
  · exact hinit
  · exact hread
  · exact hreadf

theorem exec_of_outOfDomain (h : s.OutOfDomain i) (hsyn : s.synValid = true) : exec i s = .refused .noteOutOfDomain := by
  obtain ⟨f, d, rfl, hd⟩ := h
  exact (noteEffect s f d).2.1 hsyn hd

/-- Only five commands have a precondition; each of the others answers a next state by its own equation. R180, R182, R183. -/
theorem exec_completes (hsyn : ¬ s.LacksSynth i) (hmic : ¬ s.LacksMic i) (hdom : ¬ s.OutOfDomain i) :
    ∃ t, exec i s = .next t := by
  cases i with
  | micinit => exact ⟨_, exec_micinit (micEnable_of_not_lacksMic hmic (by simp))⟩
  | micread => exact ⟨_, exec_micread (micEnable_of_not_lacksMic hmic (by simp))⟩
  | micreadf => exact ⟨_, exec_micreadf (micEnable_of_not_lacksMic hmic (by simp))⟩
  | note f d =>
    exact ⟨_, exec_note (synValid_of_not_lacksSynth hsyn (.inl rfl)) (scaledMs_le_of_not_outOfDomain hdom rfl)⟩
  | gap => exact ⟨_, exec_gap (synValid_of_not_lacksSynth hsyn (.inr rfl))⟩
  | ledset ch br => exact ⟨_, exec_ledset s ch br⟩
  | melend => exact ⟨_, exec_melend s⟩
  | _ => exact ⟨_, rfl⟩

end

/-- Settles O50: under one of the three conditions the command is refused with that reason, under none it completes. -/
theorem refusalsExactlyListed : Obligations.RefusalsExactlyListed := by
  unfold Obligations.RefusalsExactlyListed
  intro i s
  by_cases hsyn : s.LacksSynth i
  · exact .inr (.inl ⟨exec_of_lacksSynth hsyn, hsyn⟩)
  by_cases hmic : s.LacksMic i
  · exact .inr (.inr (.inl ⟨exec_of_lacksMic hmic, hmic⟩))
  by_cases hdom : s.OutOfDomain i
  · have hvalid : s.synValid = true := by
      obtain ⟨f, d, rfl, -⟩ := hdom
      exact synValid_of_not_lacksSynth hsyn (.inl rfl)
    exact .inr (.inr (.inr ⟨exec_of_outOfDomain hdom hvalid, hvalid, hdom⟩))
  · obtain ⟨t, ht⟩ := exec_completes hsyn hmic hdom
    exact .inl ⟨t, ht, hsyn, hmic, fun _ _ hi => scaledMs_le_of_not_outOfDomain hdom hi⟩

end Sys2Proof.Machine

namespace Sys2Proof.Machine

/-! The step at the end of the command stream (R211, R232, log 9) -/

/-- With no byte left, only the tick agent's turn is taken. -/
theorem step_of_streamEnd {s : State} (h : s.stream.length ≤ s.ci) : step s = .next s.tickPoint := by
  have hend : decode (s.stream.drop s.ci) = .error .endOfStream := by rw [List.drop_eq_nil_of_le h]; rfl
  simp only [step, fetch_tickPoint_error hend]

/-- What the tick agent's turn leaves, masked or not: all but the tick fields, the Tick events and the choice taken. R70. -/
theorem tickPoint_frame (s : State) :
    s.tickPoint = { s with
      ms := s.tickPoint.ms, tpend := s.tickPoint.tpend, hist := s.tickPoint.hist, env := s.tickPoint.env } := by
  apply State.ext <;> simp

/-- Settles O6: the step is the tick agent's turn, which adds Tick events alone and with the timer stopped does nothing. -/
theorem endOfStreamIdles : Obligations.EndOfStreamIdles := by
  unfold Obligations.EndOfStreamIdles
  intro s h
  exact ⟨s.tickPoint, step_of_streamEnd h, tickPoint_frame s, tickPoint_quiet s, tickPoint_stopped s⟩

end Sys2Proof.Machine
